-- ==== Sys2Proof/Word.lean ====
section
/-! DEFINITION. The byte and the table: the WS216 holds its records in tables of fixed size (16 stations, 12 zones,
32 channels, 8 inputs, 4 lanes), read and written by number. -/

namespace Sys2Proof

/-- A character value, 0..255. -/
abbrev Byte := BitVec 8

/-- A 16-bit register: the CRC of R142. -/
abbrev Word16 := BitVec 16

/-- The entry of number `i`. -/
def tget {α : Type} {n : Nat} (t : Vector α n) (i : Fin n) : α := t[i.val]

/-- The table with entry `i` replaced. -/
def tset {α : Type} {n : Nat} (t : Vector α n) (i : Fin n) (a : α) : Vector α n := t.set i.val a

/-- The table with entry `i` changed by `f`. -/
def tmod {α : Type} {n : Nat} (t : Vector α n) (i : Fin n) (f : α → α) : Vector α n := tset t i (f (tget t i))

/-- Every entry changed by `f`, which sees its number. -/
def tmap {α β : Type} {n : Nat} (f : Fin n → α → β) (t : Vector α n) : Vector β n :=
  ⟨⟨(List.finRange n).map fun i => f i (tget t i)⟩, by simp⟩

/-- The table whose entry `i` is `f i`. -/
def tmake {α : Type} {n : Nat} (f : Fin n → α) : Vector α n :=
  ⟨⟨(List.finRange n).map f⟩, by simp⟩

/-- A table with every entry the same. -/
def tfill {α : Type} (n : Nat) (a : α) : Vector α n := Vector.replicate n a

end Sys2Proof
end

