-- ==== Sys2Proof/Syntax.lean ====
section
/-! DEFINITION. The commands: one constructor of `Instr` for each row of spec/opcode_table.json, with its operands. -/

namespace Sys2Proof

/-- A sense of a vent channel (R190: FORWARD 0, REVERSE 1). -/
inductive Sense where
  | forward
  | reverse
deriving DecidableEq, Repr

/-- A character as a receiver takes it from the line (R138, R140, R172): the value of its 8 data bits, the level of its
parity bit and the level of its stop bit. -/
structure RxChar where
  value : Byte
  parityBit : Bool
  stopBit : Bool
deriving DecidableEq, Repr

/-- A host frame at the moment it is taken (R173, R174): its fields, the CRC it carried, and whether any of its
characters, start character included, had a parity or a framing error. Its length field is `body.length + 2`. -/
structure HostFrame where
  kind : Byte
  tag : Byte
  body : List Byte
  crc : Word16
  parityError : Bool := false
  framingError : Bool := false
deriving DecidableEq, Repr

/-- A field frame at the moment it is taken (R141, R143), with the number of its characters, start character included, that
had a parity error and that had a framing error (R140). Its body length field is `body.length`. -/
structure FieldFrame where
  station : Byte
  kind : Byte
  body : List Byte
  crc : Word16
  parityErrors : Nat := 0
  framingErrors : Nat := 0
deriving DecidableEq, Repr

/-- The two causes of an abandoned frame (R141, R173): a gap of more than 20 ms, or a length field out of range. -/
inductive AbandonCause where
  | gap
  | length
deriving DecidableEq, Repr

/-- The levels of the input pins (00_scope.md, Connections). Levels are in steps of 10 mV (R79), currents in tenths of
a milliampere, `true` is high or asserted. -/
structure Inputs where
  strap1 : Bool
  strap0 : Bool
  ready : Vector Bool 16
  incident : Bool
  stationLevel : Vector Nat 32
  stationSense : Vector Sense 32
  loadCurrent : Vector Nat 32
  analog : Vector (BitVec 12) 8
deriving DecidableEq, Repr

/-- The commands of the WS216. A request carries its tag and its body, characters as R184 to R187 and R195 lay them
out; RESET is two rows, one for each scope. -/
inductive Instr where
  /-- POWER_ON (R183), with the levels of the input pins. -/
  | powerOn (pins : Inputs)
  /-- RESET_LINE (R182), with the levels of the input pins. -/
  | resetLine (pins : Inputs)
  /-- HOST_FRAME_TAKEN (R174). -/
  | hostFrameTaken (f : HostFrame)
  /-- HOST_FRAME_ABANDONED (R173). -/
  | hostFrameAbandoned (cause : AbandonCause)
  /-- UNKNOWN_KIND_REQUEST (R176). -/
  | unknownKindRequest (kind tag : Byte) (body : List Byte)
  | planClear (tag : Byte) (body : List Byte)
  | planStation (tag : Byte) (body : List Byte)
  | planZone (tag : Byte) (body : List Byte)
  | planChannel (tag : Byte) (body : List Byte)
  | planSensor (tag : Byte) (body : List Byte)
  | planCheck (tag : Byte) (body : List Byte)
  | readPlan (tag : Byte) (body : List Byte)
  | campaignOpen (tag : Byte) (body : List Byte)
  | campaignAdd (tag : Byte) (body : List Byte)
  | campaignCancel (tag : Byte) (body : List Byte)
  | campaignHalt (tag : Byte) (body : List Byte)
  | campaignResume (tag : Byte) (body : List Byte)
  | campaignAbort (tag : Byte) (body : List Byte)
  | campaignClose (tag : Byte) (body : List Byte)
  | stationRetry (tag : Byte) (body : List Byte)
  | stationRelease (tag : Byte) (body : List Byte)
  | readStatus (tag : Byte) (body : List Byte)
  | readStation (tag : Byte) (body : List Byte)
  | readZone (tag : Byte) (body : List Byte)
  | readChannel (tag : Byte) (body : List Byte)
  | readQueue (tag : Byte) (body : List Byte)
  | readLane (tag : Byte) (body : List Byte)
  | readSensor (tag : Byte) (body : List Byte)
  | readTime (tag : Byte) (body : List Byte)
  | readPort (tag : Byte) (body : List Byte)
  | scanConfig (tag : Byte) (body : List Byte)
  | sensorScan (tag : Byte) (body : List Byte)
  | timeMark (tag : Byte) (body : List Byte)
  | incidentDeclare (tag : Byte) (body : List Byte)
  | incidentClear (tag : Byte) (body : List Byte)
  /-- CHANNEL_CLEAR_FAULT (R94), with the load current of the named channel as its detector sees it at the request. -/
  | channelClearFault (tag : Byte) (body : List Byte) (current : Nat)
  | portReset (tag : Byte) (body : List Byte)
  | noticeEnable (tag : Byte) (body : List Byte)
  /-- RESET with scope CAMPAIGN (R182). -/
  | resetCampaign (tag : Byte)
  /-- RESET with scope FULL (R182). -/
  | resetFull (tag : Byte)
  /-- REPLY_SENT (R179), with the levels of the input pins, which a pending full reset reads. -/
  | replySent (pins : Inputs)
  | noticeSent
  | settlePointExpiry (zone : Fin 12)
  | restartPulseEnd (lane : Fin 4)
  | bootTimerExpiry (lane : Fin 4)
  | readyRise (station : Fin 16)
  | readyFall (station : Fin 16)
  | alignTimerExpiry (lane : Fin 4)
  | holdGraceExpiry (station : Fin 16)
  /-- MEASUREMENT_COMPLETE (R79): the station-side levels in steps of 10 mV, the station-side senses, and the load
  currents in tenths of a milliampere. -/
  | measurementComplete (levels : Vector Nat 32) (senses : Vector Sense 32) (currents : Vector Nat 32)
  | regulationBoundaryRamp
  | regulationBoundaryZones
  | dwellEnd (channel : Fin 32)
  | overloadLatched (channel : Fin 32)
  | openFlagSet (channel : Fin 32)
  | openFlagCleared (channel : Fin 32)
  | scanPeriodExpiry
  /-- CONVERSION_COMPLETE (R105), with the 12-bit raw value of the input being converted. -/
  | conversionComplete (raw : BitVec 12)
  | inputStale (input : Fin 8)
  | incidentLineChange
  | incidentActiveAdmission
  | incidentActiveLanes
  | incidentActiveChannels
  | incidentInactiveAdmission
  | incidentInactiveLanes
  | incidentInactiveChannels
  | fieldCharacterReceived (port : Fin 16) (c : RxChar)
  | fieldFrameTaken (port : Fin 16) (f : FieldFrame)
  | fieldFrameAbandoned (port : Fin 16) (cause : AbandonCause)
  | fieldFrameSent (port : Fin 16)
  | dialogueTimeout (port : Fin 16)
  /-- SECOND_MARK_PULSE (R156): a rising edge that arrives `after` ticks of local time from the present instant. -/
  | secondMarkPulse (after : Nat)
  | markWatchdogExpiry
  | generatedBoundary
  | holdoverExpiry
  | hostCharacterReceived (c : RxChar)
deriving DecidableEq, Repr

end Sys2Proof
end

