-- ==== Sys2Proof/Decode.lean ====
section
/-! DEFINITION. The WS216 fetches no instruction: no row of spec/opcode_table.json gives bits, so no word spells a
command (log 23). -/

namespace Sys2Proof

/-- The command a word of the table's bits spells: none, as no row gives bits. -/
def decodeTableWord (_nbits _w : Nat) : Option Instr := none

end Sys2Proof
end

