-- ==== Sys2Proof/Config.lean ====
section
/-! DEFINITION. What the spec leaves open: free values, with no body, so that no proof can lean on them. -/

namespace Sys2Proof

/-- R178: notices emitted by different blocks at one moment may join the queue in either order. At the `k`-th such
choice this value, taken modulo the number of blocks that still have a notice to queue, names the block that goes next
(log 7). Nothing constrains it. -/
opaque Config.noticeOrder : Nat → Nat

/-- A frame that waits behind another on a field port (R147) when a reply ends its dialogue (R147, last paragraph): no rule
says whether it is still sent. At the `k`-th such case this value says whether it keeps its place (log 35). Nothing
constrains it. -/
opaque Config.keepsWaiting : Nat → Bool

/-- Events of the part's own that fall due at one instant while no command waits may be taken in any order (R78, R86, R110,
R150). At the `k`-th such choice this value, taken modulo their number, names the one taken next (log 33). Nothing
constrains it. -/
opaque Config.dueOrder : Nat → Nat

/-- R181: the part revision of the part the manual describes. -/
def Config.partRevision : Nat := 1

end Sys2Proof
end

