-- ==== Sys2Proof/Machine/State.lean ====
section
/-! DEFINITION. The state of the WS216, block by block, as the spec's record tables give it, and its values after
power-on. Instants and remaining times are in ticks of 62.5 ns of local time. -/

namespace Sys2Proof.Machine

/-! ### Plan Store (01_tunnel_plan_tables.md) -/

/-- R2. -/
inductive PlanState where
  | empty
  | draft
  | ready
deriving DecidableEq, Repr

/-- R7. -/
inductive ZoneKind where
  | vent
  | light
deriving DecidableEq, Repr

/-- R9. -/
inductive IncidentSense where
  | forward
  | reverse
  | keep
deriving DecidableEq, Repr

/-- R9, R93: LOW 20 mA, HIGH 40 mA. -/
inductive Threshold where
  | low
  | high
deriving DecidableEq, Repr

/-- R11. -/
inductive SensorKind where
  | unused
  | luminance
  | co
  | extinction
deriving DecidableEq, Repr

/-- R8: a zone's law with its parameters. -/
inductive Law where
  | none
  | light (input : Fin 8) (k lfull : Nat)
  | vent (co : Option (Fin 8)) (coLow coHigh : Nat) (ext : Option (Fin 8)) (extLow extHigh : Nat)
deriving DecidableEq, Repr

/-- R5: the station record. Times in the units of the table: ms for the pulse and the dialogue, s for the others. -/
structure StationPlan where
  bitRate : Nat
  restartPulse : Nat
  bootTimeout : Nat
  dialogueTimeout : Nat
  alignTimeout : Nat
  captureTolerance : Nat
  handbackTolerance : Nat
  holdGrace : Nat
  retryLimit : Nat
deriving DecidableEq, Repr

/-- R7: the zone record. -/
structure ZonePlan where
  kind : ZoneKind
  holdLimit : Nat
  settleTime : Nat
  dwell : Nat
  deadBand : Nat
  baseLevel : Nat
  blindLevel : Nat
  law : Law
deriving DecidableEq, Repr

/-- R9: the channel record. -/
structure ChannelPlan where
  owner : Fin 16
  zone : Fin 12
  capacity : Nat
  minLevel : Nat
  maxLevel : Nat
  rampUp : Nat
  rampDown : Nat
  incidentLevel : Nat
  incidentSense : IncidentSense
  incidentRamp : Nat
  threshold : Threshold
  /-- ms -/
  deglitch : Nat
  openDetect : Bool
deriving DecidableEq, Repr

/-- R11: the sensor record. -/
structure SensorPlan where
  kind : SensorKind
  rawBroken : Nat
  rawLo : Nat
  rawHi : Nat
  valueLo : Nat
  valueHi : Nat
  shift : Nat
deriving DecidableEq, Repr

/-- R18: the derived values held while the plan is READY. -/
structure Derived where
  /-- the bound-channel list of each station, ascending (R6) -/
  bound : Vector (List (Fin 32)) 16
  /-- total(z) -/
  total : Vector Nat 12
  /-- the channel count of each zone -/
  count : Vector Nat 12
  /-- cap(s, z) -/
  cap : Vector (Vector Nat 12) 16
  /-- the kind of each defined channel (R10) -/
  kind : Vector (Option ZoneKind) 32
deriving DecidableEq, Repr

/-- R1. -/
structure PlanStore where
  state : PlanState
  stations : Vector (Option StationPlan) 16
  zones : Vector (Option ZonePlan) 12
  channels : Vector (Option ChannelPlan) 32
  sensors : Vector (Option SensorPlan) 8
  derived : Option Derived
deriving DecidableEq, Repr

/-! ### Admission Unit (02_restart_queue_and_admission.md) -/

/-- R19. -/
inductive CampaignState where
  | idle
  | running
  | halted
  | aborting
  | ended
deriving DecidableEq, Repr

/-- R19. -/
structure CampaignParams where
  windowStart : Nat
  windowEnd : Nat
  lanesInUse : Nat
  passOverLimit : Nat
deriving DecidableEq, Repr

/-- R28. -/
inductive StationState where
  | idle
  | queued
  | active
  | done
  | declined
  | stranded
  | cancelled
deriving DecidableEq, Repr

/-- The reasons reported by a lane (03_restart_lanes.md, Reasons reported by a lane; R189). -/
inductive Reason where
  | noFreeze
  | freezeRefused
  | captureMismatch
  | protocol
  | noRestartSeen
  | bootTimeout
  | rebooted
  | restoreTimeout
  | restoreRejected
  | alignFailed
  | incident
  | aborted
deriving DecidableEq, Repr

/-- R30: the checkpoint and the station mode byte stored with it. -/
structure Checkpoint where
  modeByte : Byte
  bytes : List Byte
deriving DecidableEq, Repr

/-- R29: the station record. -/
structure StationRec where
  state : StationState
  cls : Fin 4
  captureFailures : Nat
  attempts : Nat
  alignAttempts : Nat
  lastReason : Option Reason
  checkpoint : Option Checkpoint
  releaseUnconfirmed : Bool
  preCaptured : Bool
deriving DecidableEq, Repr

/-- R34: the last block reason of an entry. -/
inductive BlockReason where
  | none
  | cover
  | settle
  | pin
  | portFault
deriving DecidableEq, Repr

/-- R34. -/
structure QueueEntry where
  station : Fin 16
  cls : Fin 4
  preCaptured : Bool
  passOver : Nat
  pinned : Bool
  block : BlockReason
deriving DecidableEq, Repr

/-- R19, R28, R34, R36, R43. -/
structure Admission where
  campaign : CampaignState
  params : Option CampaignParams
  stations : Vector (Option StationRec) 16
  queue : List QueueEntry
  reserved : Vector Bool 32
  /-- settle-until points -/
  settle : Vector (Option Nat) 12
deriving DecidableEq, Repr

/-! ### Lane Controller (03_restart_lanes.md) -/

/-- R45. -/
inductive Stage where
  | free
  | capture
  | rollback
  | restart
  | boot
  | restore
  | prepare
  | align
  | matching
  | release
deriving DecidableEq, Repr

/-- R45, R190. -/
inductive RestoreMode where
  | cold
  | warm
deriving DecidableEq, Repr

/-- R45: the lane record. -/
structure Lane where
  stage : Stage
  station : Option (Fin 16)
  /-- the instant at which the stage timer expires; absent while it is stopped -/
  timer : Option Nat
  matchCount : Nat
  mode : RestoreMode
  releaseSends : Nat
  seenReadyLow : Bool
  rollbackReason : Option Reason
deriving DecidableEq, Repr

/-- R48: a hold-grace timer; RUNNING holds the instant at which it reaches 0. -/
inductive Grace where
  | notStarted
  | running (until_ : Nat)
  | expired
deriving DecidableEq, Repr

/-- R45, R47, R48, R55. -/
structure LaneUnit where
  lanes : Vector Lane 4
  /-- deglitched ready states, `true` high -/
  ready : Vector Bool 16
  /-- ticks for which each ready line has held the level opposite to its deglitched state (R47) -/
  readyCount : Vector Nat 16
  /-- restart lines, `true` asserted -/
  restartLine : Vector Bool 16
  grace : Vector Grace 16
deriving DecidableEq, Repr

/-! ### Channel Unit (04_output_channels.md) -/

/-- R76, R77. -/
inductive Mode where
  | follow
  | hold
  | track
  | incident
deriving DecidableEq, Repr

/-- R76, R87, R88. -/
inductive Reversal where
  | none
  | rundown
  | dwell
deriving DecidableEq, Repr

/-- R76: the channel record. -/
structure Channel where
  mode : Mode
  /-- `true` energised -/
  relay : Bool
  /-- the output stage, `true` on -/
  stage : Bool
  level : Nat
  sense : Sense
  target : Option Nat
  reversal : Reversal
  reversalSense : Option Sense
  /-- the instant at which the dwell ends -/
  dwellUntil : Option Nat
  observedLevel : Nat
  observedSense : Sense
  loadCurrent : Nat
  overload : Bool
  openFlag : Bool
  /-- deglitch progress of the two detectors, in ticks (R92) -/
  overloadProgress : Nat
  openProgress : Nat
deriving DecidableEq, Repr

/-- R76, R79, R85. -/
structure ChannelUnit where
  channels : Vector Channel 32
  /-- the instant of the next measurement completion -/
  nextMeasure : Nat
  /-- the instant of the next regulation boundary, as the Channel Unit takes it -/
  nextRamp : Nat
deriving DecidableEq, Repr

/-! ### Sensor Scan Unit and Fallback Regulator (05_sensor_scanning_and_fallback_regulation.md) -/

/-- R98. -/
inductive ScanMode where
  | single
  | sequence
  | cyclic
deriving DecidableEq, Repr

/-- R98. -/
inductive Trigger where
  | request
  | period
  | mark
deriving DecidableEq, Repr

/-- R98: the scan configuration. -/
structure ScanConfig where
  mode : ScanMode
  trigger : Trigger
  /-- ms -/
  period : Nat
  count : Nat
  single : Fin 8
deriving DecidableEq, Repr

/-- R104: the input record. The age is held as the instant of the latest completed conversion. -/
structure InputRec where
  raw : Option Nat
  value : Option Nat
  filtered : Option Nat
  broken : Bool
  valid : Bool
  seedPending : Bool
  ageFrom : Option Nat
deriving DecidableEq, Repr

/-- R98, R104. -/
structure ScanUnit where
  config : ScanConfig
  scanning : Bool
  index : Fin 8
  /-- the instant at which the period timer expires -/
  timer : Option Nat
  /-- the instant at which the conversion in progress completes (R100) -/
  conversionEnd : Option Nat
  /-- the result of the conversion in progress is to be discarded (R12, R103) -/
  discard : Bool
  inputs : Vector InputRec 8
deriving DecidableEq, Repr

/-- R109: the Regulator's zone record. -/
structure ZoneRec where
  blind : Bool
  blindInputs : List (Fin 8)
  demand : Option Nat
  target : Option Nat
  trackCount : Nat
deriving DecidableEq, Repr

/-- R109, R110. -/
structure Regulator where
  zones : Vector ZoneRec 12
  /-- the instant of the next regulation boundary, as the Regulator takes it -/
  nextZones : Nat
deriving DecidableEq, Repr

/-! ### Incident Input (06_incident_handling.md) -/

/-- R123 to R125. The last three hold the changes of the condition (`true`: became active) handed to a block and not
yet taken by it, oldest first (log 8). -/
structure IncidentInput where
  /-- deglitched line state, `true` ASSERTED -/
  line : Bool
  /-- ticks for which the line has held the level opposite to the deglitched state -/
  lineCount : Nat
  hostFlag : Bool
  toAdmission : List Bool
  toLanes : List Bool
  toChannels : List Bool
deriving DecidableEq, Repr

/-! ### Field Port Controller (07_station_field_ports.md) -/

/-- R146: the kinds of dialogue. -/
inductive DialogueKind where
  | freeze
  | thaw
  | restore
  | align
  | release
deriving DecidableEq, Repr

/-- R146: the transmit state. -/
inductive Transmit where
  | waiting
  | sending
  | sent
deriving DecidableEq, Repr

/-- R146: the dialogue record. -/
structure Dialogue where
  kind : DialogueKind
  body : List Byte
  transmit : Transmit
  /-- the instant at which the dialogue timer expires; absent while it is stopped -/
  timer : Option Nat
deriving DecidableEq, Repr

/-- R137, R141: a field frame part-way through reception: its characters after the start character, oldest first, how
many of them had a parity error and a framing error, and the instant from which the gap is measured. -/
structure FieldPart where
  chars : List Byte
  parityErrors : Nat
  framingErrors : Nat
  gapFrom : Nat
deriving DecidableEq, Repr

/-- R137, R147: a frame being sent, with the ticks one bit of it lasts, which a change of rate leaves as they are (R138),
and the instant at which its last character ends. -/
structure Sending where
  bytes : List Byte
  bitTicks : Nat
  doneAt : Nat
deriving DecidableEq, Repr

/-- R137: the port record. `rx` absent is HUNT; the transmitter sends at most one frame and at most one waits. -/
structure Port where
  rate : Option Nat
  divisor : Option Nat
  /-- status FAULTED -/
  faulted : Bool
  consecutive : Nat
  parity : Nat
  framing : Nat
  bad : Nat
  unexpected : Nat
  late : Nat
  timeouts : Nat
  dialogue : Option Dialogue
  lateRecord : Option DialogueKind
  rx : Option FieldPart
  sending : Option Sending
  waiting : Option (List Byte)
deriving DecidableEq, Repr

/-! ### Time Base (08_tunnel_time_base.md) -/

/-- R155. -/
inductive TimeState where
  | unset
  | coarse
  | fine
  | holdover
deriving DecidableEq, Repr

/-- R155. -/
inductive BoundaryKind where
  | pulse
  | generated
deriving DecidableEq, Repr

/-- R155. -/
structure TimeBase where
  state : TimeState
  last : Option (Nat × BoundaryKind)
  /-- the sample set, oldest first -/
  samples : List Nat
  rateP : Nat
  day : Option Nat
  second : Option Nat
  /-- the pending mark: a day and a second of day -/
  mark : Option (Nat × Nat)
  glitches : Nat
  watchdog : Option Nat
  holdover : Option Nat
  nextGenerated : Option Nat
deriving DecidableEq, Repr

/-! ### Host Link Interface (09_host_link_and_message_reference.md) -/

/-- R189. -/
inductive Status where
  | ok
  | unknownKind
  | badLength
  | badField
  | notDefined
  | wrongState
  | duplicate
  | queueFull
  | busy
  | planInvalid
  | rateError
deriving DecidableEq, Repr

/-- R96: the two fault flags of a channel. -/
inductive FaultFlag where
  | overload
  | openLoad
deriving DecidableEq, Repr

/-- R170: the causes of a NOTE_TIME. -/
inductive TimeCause where
  | markApplied
  | eighthSample
  | latePulse
  | watchdog
  | pulseReturned
  | holdoverExpired
deriving DecidableEq, Repr

/-- The notices with their contents (R187). -/
inductive Notice where
  /-- R28, R46, R192; the lane and its stage are present while ACTIVE -/
  | station (n : Fin 16) (state : StationState) (lane : Option (Fin 4 × Stage)) (reason : Option Reason)
  /-- R96 -/
  | channel (c : Fin 32) (flag : FaultFlag) (value overload openFlag : Bool) (mode : Mode) (level : Nat) (stage : Bool)
  /-- R121 -/
  | zone (z : Fin 12) (blind : Bool) (inputs : List (Fin 8)) (demand target : Option Nat) (trackCount : Nat)
  /-- R170; `before` is present when a mark was applied in COARSE, FINE or HOLDOVER -/
  | time (new previous : TimeState) (cause : TimeCause) (after before : Option (Nat × Nat)) (rateP samples : Nat)
  /-- R125 -/
  | incident (condition line hostFlag : Bool)
  /-- R26: DONE, DECLINED, STRANDED, CANCELLED, DONE with release-unconfirmed -/
  | campaign (done declined stranded cancelled unconfirmed : Nat)
  /-- R154 -/
  | port (p : Fin 16) (faulted : Bool) (parity framing bad unexpected late timeouts consecutive : Nat)
deriving DecidableEq, Repr

/-- The blocks that emit notices (R187): a block's notices of one event keep their order (R178). -/
inductive Block where
  | admission
  | lanes
  | channels
  | regulator
  | time
  | incident
  | ports
deriving DecidableEq, Repr

/-- Tunnel time as a reply carries it: day, second of day, microsecond part (R161, R171). -/
structure TunnelTime where
  day : Nat
  second : Nat
  micro : Nat
deriving DecidableEq, Repr

/-- R186: the items of the channel record that READ_CHANNEL reports; the deglitch progress is not reported (R76). The dwell
is given as the ticks that remain. -/
structure ChannelReport where
  mode : Mode
  relay : Bool
  stage : Bool
  level : Nat
  sense : Sense
  target : Option Nat
  reversal : Reversal
  reversalSense : Option Sense
  dwellRemaining : Option Nat
  observedLevel : Nat
  observedSense : Sense
  loadCurrent : Nat
  overload : Bool
  openFlag : Bool
deriving DecidableEq, Repr

/-- What follows the status in a reply (R177, R184 to R187). Remaining times are in ticks (log 24). -/
inductive Items where
  /-- no items -/
  | none
  /-- R177: the kind value received, in a reply UNKNOWN_KIND -/
  | kindReceived (kind : Byte)
  /-- R177: the position of the entry that failed -/
  | position (i : Nat)
  /-- R15: the check code and the index -/
  | check (code index : Nat)
  /-- R4: the records as stored -/
  | station (n : Fin 16) (r : StationPlan)
  | zone (n : Fin 12) (r : ZonePlan)
  | channel (n : Fin 32) (r : ChannelPlan)
  | sensor (n : Fin 8) (r : SensorPlan)
  /-- R14: a record with its derived values while READY -/
  | readStationPlan (n : Fin 16) (r : StationPlan) (bound : Option (List (Fin 32)))
  | readZonePlan (n : Fin 12) (r : ZonePlan) (totalAndCount : Option (Nat × Nat))
  | readChannelPlan (n : Fin 32) (r : ChannelPlan) (kind : Option ZoneKind)
  | readSensorPlan (n : Fin 8) (r : SensorPlan)
  /-- R184: campaign state and parameters, and the queue length for ADD and CANCEL -/
  | campaign (state : CampaignState) (params : Option CampaignParams) (queueLength : Option Nat)
  /-- CAMPAIGN_CLOSE -/
  | campaignState (state : CampaignState)
  /-- STATION_RETRY: the station's state and queue position -/
  | retry (state : StationState) (position : Option Nat)
  /-- STATION_RELEASE -/
  | stationState (state : StationState)
  /-- R181, R191 -/
  | status (revision : Nat) (plan : PlanState) (campaign : CampaignState) (condition line hostFlag : Bool)
      (time : TimeState) (lost : Bool) (parity framing crc length overrun : Nat)
  /-- R185: the station record; the lane and stage, the queue position with the entry's pre-captured flag, the
  checkpoint's length and mode byte, the hold-grace timer with its remaining time, the ready state, the restart line -/
  | stationRecord (n : Fin 16) (state : StationState) (lane : Option (Fin 4 × Stage)) (entry : Option (Nat × Bool))
      (cls : Fin 4) (captureFailures attempts alignAttempts : Nat) (reason : Option Reason)
      (checkpoint : Option (Nat × Byte)) (releaseUnconfirmed preCaptured : Bool) (grace : Grace)
      (graceRemaining : Option Nat) (ready restartLine : Bool)
  /-- R122: the zone record, the reserved capacity and the settle time remaining -/
  | zoneRecord (z : Fin 12) (r : ZoneRec) (reserved : Nat) (settleRemaining : Option Nat)
  /-- R186: whether the slot is defined, its kind while READY, the reported items of the channel record, the reserved
  flag -/
  | channelRecord (c : Fin 32) (defined : Bool) (kind : Option ZoneKind) (r : ChannelReport) (reserved : Bool)
  /-- R186: the entries from head to tail -/
  | queue (entries : List QueueEntry)
  /-- R186: the lane record with the time remaining, and whether the lane lies below lanes-in-use -/
  | laneRecord (l : Fin 4) (r : Lane) (timeRemaining : Option Nat) (inUse : Bool)
  /-- R108: kind, input record with its age in ms, stale limit in ms, configuration and scan state -/
  | sensorRecord (i : Fin 8) (kind : SensorKind) (r : InputRec) (age : Option Nat) (staleLimit : Nat)
      (config : ScanConfig) (scanning : Bool) (index : Fin 8) (timerRemaining : Option Nat)
  /-- R171 -/
  | timeRecord (state : TimeState) (time : Option TunnelTime) (mark : Option (Nat × Nat)) (rateP : Nat)
      (samples : List Nat) (glitches : Nat) (last : Option (Nat × BoundaryKind)) (remaining : Option Nat)
  /-- R145, R154: the port record, the divisor error in ppm, the time remaining on the dialogue timer -/
  | portRecord (p : Fin 16) (r : Port) (divisorError : Option Nat) (timerRemaining : Option Nat)
  /-- R99 -/
  | scanConfig (config : ScanConfig)
  /-- R162 -/
  | timeMark (state : TimeState) (mark : Option (Nat × Nat)) (time : Option TunnelTime)
  /-- R124 -/
  | incident (condition line hostFlag : Bool)
  /-- R94, R187: both fault flags and the output stage -/
  | faults (overload openFlag stage : Bool)
  /-- R180: the enable set -/
  | enableSet (set : BitVec 7)
  /-- R182: the scope of a RESET -/
  | scope (full : Bool)
deriving DecidableEq, Repr

/-- R177: a reply. -/
structure Reply where
  kind : Byte
  tag : Byte
  status : Status
  items : Items
deriving DecidableEq, Repr

/-- R174, R175: a good frame in the receive queue. -/
structure Request where
  kind : Byte
  tag : Byte
  body : List Byte
deriving DecidableEq, Repr

/-- R173: a host frame part-way through reception: its characters after the start character, oldest first, whether any
had a parity or a framing error, and the instant from which the gap is measured. -/
structure HostPart where
  chars : List Byte
  parityError : Bool
  framingError : Bool
  gapFrom : Nat
deriving DecidableEq, Repr

/-- R179: what the transmitter is sending. -/
inductive Transmitter where
  | idle
  | reply
  | notice (n : Notice)
deriving DecidableEq, Repr

/-- R172, R183. -/
structure HostLink where
  /-- bit/s -/
  rate : Nat
  divisor : Nat
  rx : Option HostPart
  queue : List Request
  slot : Option Reply
  /-- a pending RESET FULL (R182) -/
  resetPending : Bool
  tx : Transmitter
  notices : List Notice
  /-- bit i stands for the notice kind 0xC0 + i (R195) -/
  enable : BitVec 7
  lost : Bool
  parity : Nat
  framing : Nat
  crc : Nat
  length : Nat
  overrun : Nat
deriving DecidableEq, Repr

/-! ### The whole part -/

/-- The state of the WS216 (INVENTORY.md, State). -/
structure State where
  /-- local time, in ticks since the reset (log 3) -/
  now : Nat
  /-- the input pins, as last told (log 1, log 2) -/
  pins : Inputs
  plan : PlanStore
  adm : Admission
  lane : LaneUnit
  chan : ChannelUnit
  scan : ScanUnit
  reg : Regulator
  inc : IncidentInput
  ports : Vector Port 16
  time : TimeBase
  link : HostLink
  /-- notices of the event under way, in the order emitted; empty between events (log 7) -/
  outbox : List (Block × Notice)
  /-- how many free values have been used (log 7) -/
  free : Nat
  /-- the commands that are waiting, first in, first out -/
  pending : List Instr
deriving DecidableEq, Repr

/-- No command of the WS216 stops the part: every row of the table has an effect, or leaves the state as it is, in
every state. No meaning raises a fault, so the type has no constructor (safe). -/
inductive Fault where
deriving DecidableEq, Repr

/-- Why a command has no meaning. -/
inductive Refusal where
  /-- The row has no meaning in this model. Only `exec`'s arms answer it; safe, as the model stops. -/
  | notModelled (mnemonic : String)
deriving DecidableEq, Repr

/-! ### Values after power-on -/

/-- R45. -/
def Lane.fresh : Lane :=
  { stage := .free, station := none, timer := none, matchCount := 0, mode := .cold, releaseSends := 0,
    seenReadyLow := false, rollbackReason := none }

/-- R76. -/
def Channel.fresh : Channel :=
  { mode := .follow, relay := false, stage := false, level := 0, sense := .forward, target := none,
    reversal := .none, reversalSense := none, dwellUntil := none, observedLevel := 0, observedSense := .forward,
    loadCurrent := 0, overload := false, openFlag := false, overloadProgress := 0, openProgress := 0 }

/-- R29: a new station record. -/
def StationRec.fresh : StationRec :=
  { state := .idle, cls := 0, captureFailures := 0, attempts := 0, alignAttempts := 0, lastReason := none,
    checkpoint := none, releaseUnconfirmed := false, preCaptured := false }

/-- R104. -/
def InputRec.fresh : InputRec :=
  { raw := none, value := none, filtered := none, broken := false, valid := false, seedPending := true,
    ageFrom := none }

/-- R109. -/
def ZoneRec.fresh : ZoneRec :=
  { blind := false, blindInputs := [], demand := none, target := none, trackCount := 0 }

/-- R137. -/
def Port.fresh : Port :=
  { rate := none, divisor := none, faulted := false, consecutive := 0, parity := 0, framing := 0, bad := 0,
    unexpected := 0, late := 0, timeouts := 0, dialogue := none, lateRecord := none, rx := none, sending := none,
    waiting := none }

/-- R155. -/
def TimeBase.fresh : TimeBase :=
  { state := .unset, last := none, samples := [], rateP := 16000000, day := none, second := none, mark := none,
    glitches := 0, watchdog := none, holdover := none, nextGenerated := none }

/-- The input pins of `State.reset` (DESIGN CHOICE, log 1): every line low, every level and current 0. -/
def Inputs.low : Inputs :=
  { strap1 := false, strap0 := false, ready := tfill 16 false, incident := false, stationLevel := tfill 32 0,
    stationSense := tfill 32 .forward, loadCurrent := tfill 32 0, analog := tfill 8 0 }

/-- The machine right after power-on with the pins of `Inputs.low`: straps low low give 9600 bit/s (R172). -/
def State.reset : State :=
  { now := 0
    pins := Inputs.low
    plan := { state := .empty, stations := tfill 16 none, zones := tfill 12 none, channels := tfill 32 none,
              sensors := tfill 8 none, derived := none }
    adm := { campaign := .idle, params := none, stations := tfill 16 none, queue := [], reserved := tfill 32 false,
             settle := tfill 12 none }
    lane := { lanes := tfill 4 Lane.fresh, ready := tfill 16 false, readyCount := tfill 16 0,
              restartLine := tfill 16 false, grace := tfill 16 .notStarted }
    chan := { channels := tfill 32 Channel.fresh, nextMeasure := 1600000, nextRamp := 16000000 }
    scan := { config := { mode := .cyclic, trigger := .period, period := 1000, count := 8, single := 0 },
              scanning := false, index := 0, timer := some 16000000, conversionEnd := none, discard := false,
              inputs := tfill 8 InputRec.fresh }
    reg := { zones := tfill 12 ZoneRec.fresh, nextZones := 16000000 }
    inc := { line := false, lineCount := 0, hostFlag := false, toAdmission := [], toLanes := [], toChannels := [] }
    ports := tfill 16 Port.fresh
    time := TimeBase.fresh
    link := { rate := 9600, divisor := 104, rx := none, queue := [], slot := none, resetPending := false, tx := .idle,
              notices := [], enable := 127#7, lost := false, parity := 0, framing := 0, crc := 0, length := 0,
              overrun := 0 }
    outbox := []
    free := 0
    pending := [] }

end Sys2Proof.Machine
end

