-- ==== Sys2Proof/Machine/Ops.lean ====
section
/-! DEFINITION. The named operations over the records of the state: setting a block, setting one record of a block,
looking up the plan, emitting a notice. -/

namespace Sys2Proof.Machine

/-! ### One setter for each block -/

def State.setNow (s : State) (v : Nat) : State := { s with now := v }
def State.setPins (s : State) (v : Inputs) : State := { s with pins := v }
def State.setPlan (s : State) (v : PlanStore) : State := { s with plan := v }
def State.setAdm (s : State) (v : Admission) : State := { s with adm := v }
def State.setLane (s : State) (v : LaneUnit) : State := { s with lane := v }
def State.setChan (s : State) (v : ChannelUnit) : State := { s with chan := v }
def State.setScan (s : State) (v : ScanUnit) : State := { s with scan := v }
def State.setReg (s : State) (v : Regulator) : State := { s with reg := v }
def State.setInc (s : State) (v : IncidentInput) : State := { s with inc := v }
def State.setPorts (s : State) (v : Vector Port 16) : State := { s with ports := v }
def State.setTime (s : State) (v : TimeBase) : State := { s with time := v }
def State.setLink (s : State) (v : HostLink) : State := { s with link := v }
def State.setOutbox (s : State) (v : List (Block × Notice)) : State := { s with outbox := v }
def State.setFree (s : State) (v : Nat) : State := { s with free := v }
def State.setPending (s : State) (v : List Instr) : State := { s with pending := v }

/-! ### One record of a block -/

def State.channel (s : State) (c : Fin 32) : Channel := tget s.chan.channels c
def State.setChannel (s : State) (c : Fin 32) (r : Channel) : State :=
  s.setChan { s.chan with channels := tset s.chan.channels c r }

def State.laneRec (s : State) (l : Fin 4) : Lane := tget s.lane.lanes l
def State.setLaneRec (s : State) (l : Fin 4) (r : Lane) : State :=
  s.setLane { s.lane with lanes := tset s.lane.lanes l r }

def State.port (s : State) (p : Fin 16) : Port := tget s.ports p
def State.setPort (s : State) (p : Fin 16) (r : Port) : State := s.setPorts (tset s.ports p r)

def State.zoneRec (s : State) (z : Fin 12) : ZoneRec := tget s.reg.zones z
def State.setZoneRec (s : State) (z : Fin 12) (r : ZoneRec) : State :=
  s.setReg { s.reg with zones := tset s.reg.zones z r }

def State.input (s : State) (i : Fin 8) : InputRec := tget s.scan.inputs i
def State.setInput (s : State) (i : Fin 8) (r : InputRec) : State :=
  s.setScan { s.scan with inputs := tset s.scan.inputs i r }

/-- The station record, present while the slot is defined (R28). -/
def State.station (s : State) (n : Fin 16) : Option StationRec := tget s.adm.stations n
def State.setStation (s : State) (n : Fin 16) (r : Option StationRec) : State :=
  s.setAdm { s.adm with stations := tset s.adm.stations n r }
/-- Changes the record of a defined station. -/
def State.modStation (s : State) (n : Fin 16) (f : StationRec → StationRec) : State :=
  s.setStation n ((s.station n).map f)
/-- The state of a station; an undefined slot has none. -/
def State.stationState (s : State) (n : Fin 16) : Option StationState := (s.station n).map (·.state)

def State.grace (s : State) (n : Fin 16) : Grace := tget s.lane.grace n
def State.setGrace (s : State) (n : Fin 16) (g : Grace) : State :=
  s.setLane { s.lane with grace := tset s.lane.grace n g }
def State.setRestartLine (s : State) (n : Fin 16) (b : Bool) : State :=
  s.setLane { s.lane with restartLine := tset s.lane.restartLine n b }
/-- The host link with another receive queue, reply slot, transmitter or receiver. -/
def HostLink.setQueue (k : HostLink) (v : List Request) : HostLink := { k with queue := v }
def HostLink.setSlot (k : HostLink) (v : Option Reply) : HostLink := { k with slot := v }
def HostLink.setTx (k : HostLink) (v : Transmitter) : HostLink := { k with tx := v }
def HostLink.setRx (k : HostLink) (v : Option HostPart) : HostLink := { k with rx := v }
def State.setQueue (s : State) (q : List QueueEntry) : State := s.setAdm { s.adm with queue := q }

/-! ### The plan -/

def State.stationPlan (s : State) (n : Fin 16) : Option StationPlan := tget s.plan.stations n
def State.zonePlan (s : State) (z : Fin 12) : Option ZonePlan := tget s.plan.zones z
def State.channelPlan (s : State) (c : Fin 32) : Option ChannelPlan := tget s.plan.channels c
def State.sensorPlan (s : State) (i : Fin 8) : Option SensorPlan := tget s.plan.sensors i

/-- The station's bound channels in channel order (R6): the derived list, held while the plan is READY. -/
def State.bound (s : State) (n : Fin 16) : List (Fin 32) :=
  match s.plan.derived with
  | some d => tget d.bound n
  | none => []

/-- cap(s, z) (R18). -/
def State.cap (s : State) (n : Fin 16) (z : Fin 12) : Nat :=
  match s.plan.derived with
  | some d => tget (tget d.cap n) z
  | none => 0

/-- total(z) (R18). -/
def State.total (s : State) (z : Fin 12) : Nat :=
  match s.plan.derived with
  | some d => tget d.total z
  | none => 0

/-- The kind of a channel, a derived value (R10, R18). -/
def State.kind (s : State) (c : Fin 32) : Option ZoneKind :=
  match s.plan.derived with
  | some d => tget d.kind c
  | none => none

/-- A VENT channel (R10). -/
def State.isVent (s : State) (c : Fin 32) : Bool := s.kind c == some .vent

/-- The zone of a defined channel. -/
def State.zoneOf (s : State) (c : Fin 32) : Option (Fin 12) := (s.channelPlan c).map (·.zone)

/-- The law of a channel's zone; an undefined channel or zone slot has none. -/
def State.lawOf (s : State) (c : Fin 32) : Law :=
  match s.zoneOf c with
  | some z => ((s.zonePlan z).map (·.law)).getD .none
  | none => .none

/-- A station touches the zones of its bound channels (R18). -/
def State.touches (s : State) (n : Fin 16) (z : Fin 12) : Bool := (s.bound n).any fun c => s.zoneOf c == some z

/-- The retry limit of a station. -/
def State.retryLimit (s : State) (n : Fin 16) : Nat := ((s.stationPlan n).map (·.retryLimit)).getD 0

/-- Milliseconds and seconds of local time in ticks (00_scope.md, Time; R155). -/
def ticksOfMs (n : Nat) : Nat := n * 16000
def ticksOfSec (n : Nat) : Nat := n * 16000000

/-! ### Lists of all numbers, in ascending order -/

def allStations : List (Fin 16) := List.finRange 16
def allZones : List (Fin 12) := List.finRange 12
def allChannels : List (Fin 32) := List.finRange 32
def allInputs : List (Fin 8) := List.finRange 8
def allLanes : List (Fin 4) := List.finRange 4

/-! ### Lanes and notices -/

/-- The lane that holds a station. -/
def State.laneOf (s : State) (n : Fin 16) : Option (Fin 4) :=
  allLanes.find? fun l => (s.laneRec l).station == some n

/-- The stage of the lane that holds a station. -/
def State.stageOf (s : State) (n : Fin 16) : Option Stage := (s.laneOf n).map fun l => (s.laneRec l).stage

/-- A block emits a notice; it reaches the notice queue at the end of the event (R178, log 7). -/
def State.emit (s : State) (b : Block) (n : Notice) : State := s.setOutbox (s.outbox ++ [(b, n)])

/-- The contents of a NOTE_STATION (R28, R46, R192): state, lane and stage while ACTIVE, last reason. -/
def stationNotice (s : State) (n : Fin 16) (r : StationRec) : Notice :=
  .station n r.state
    (if r.state = .active then (s.laneOf n).map fun l => (l, (s.laneRec l).stage) else none)
    r.lastReason

/-- Emits a NOTE_STATION for a defined station. -/
def noteStation (b : Block) (n : Fin 16) (s : State) : State :=
  match s.station n with
  | some r => s.emit b (stationNotice s n r)
  | none => s

/-- Changes a station's record with a change of its state, and emits the NOTE_STATION of R28. -/
def changeStation (n : Fin 16) (f : StationRec → StationRec) (s : State) : State :=
  noteStation .admission n (s.modStation n f)

end Sys2Proof.Machine
end

