-- ==== Sys2Proof/Machine/Flags.lean ====
section
/-! DEFINITION. The flags and conditions the rules compute from the state: saturating counters, the incident condition,
the campaign window, the settled test, the field level, the conditions of the two fault detectors, validity. -/

namespace Sys2Proof.Machine

/-- A counter that rises by 1 and saturates at `m`. -/
def satInc (m c : Nat) : Nat := if c < m then c + 1 else m

/-- Clamping to the nearer limit of a range (R4, step 4). -/
def clamp (lo hi x : Nat) : Nat := max lo (min hi x)

/-- The absolute difference of two levels. -/
def dist (a b : Nat) : Nat := if a ≤ b then b - a else a - b

/-- R125: the incident condition. -/
def condition (i : IncidentInput) : Bool := i.line || i.hostFlag

/-- The condition as the Admission Unit has last taken it (R126, R135; log 8): the changes still to be taken are not yet
known to it, and a change alternates with the next. -/
def admissionView (i : IncidentInput) : Bool :=
  match i.toAdmission with
  | [] => condition i
  | c :: _ => !c

/-- The condition as the Lane Controller has last taken it. -/
def lanesView (i : IncidentInput) : Bool :=
  match i.toLanes with
  | [] => condition i
  | c :: _ => !c

/-- R38, R126, R128: the condition as the gate of a pass meets it: as the Admission Unit has last taken it, and active too
while the Lane Controller, which has taken changes that the Admission Unit has still to take, has last taken one to
active, so that the gate stops the passes that its rollbacks call (log 8). -/
def gateCondition (i : IncidentInput) : Bool :=
  admissionView i || (decide (i.toLanes.length < i.toAdmission.length) && lanesView i)

/-- R38: the campaign window at a second of day. -/
def windowOpen (p : CampaignParams) (sec : Nat) : Bool :=
  if p.windowStart < p.windowEnd then decide (p.windowStart ≤ sec) && decide (sec < p.windowEnd)
  else if p.windowEnd < p.windowStart then decide (p.windowStart ≤ sec) || decide (sec < p.windowEnd)
  else true

/-- R38 against the tunnel time held: closed while no parameters or no time is held. -/
def windowNow (s : State) : Bool :=
  match s.adm.params, s.time.second with
  | some p, some sec => windowOpen p sec
  | _, _ => false

/-- R38: a pass may take entries in. -/
def passGate (s : State) : Bool :=
  s.adm.campaign == .running && !gateCondition s.inc && s.time.state != .unset && windowNow s

/-- R91. -/
def settled (c : Channel) : Bool := c.target == some c.level && c.reversal == .none

/-- R77: the level the field receives, as the Channel Unit reckons it. -/
def fieldLevel (c : Channel) : Nat :=
  if c.mode = .follow then c.observedLevel else if c.stage then c.level else 0

/-- R77: the sense the field receives: the station's sense line itself in FOLLOW, the driven sense otherwise. -/
def fieldSense (s : State) (c : Fin 32) : Sense :=
  if (s.channel c).mode = .follow then tget s.pins.stationSense c else (s.channel c).sense

/-- R93: the overload threshold in tenths of a milliampere. -/
def thresholdTenths : Threshold → Nat
  | .low => 200
  | .high => 400

/-- R93: the overload condition, on the current as the detector sees it; an undefined slot has no detection (R92). -/
def overloadCondition (s : State) (c : Fin 32) : Bool :=
  match s.channelPlan c with
  | some p => decide (thresholdTenths p.threshold < tget s.pins.loadCurrent c)
  | none => false

/-- R95: the open-load condition. -/
def openCondition (s : State) (c : Fin 32) : Bool :=
  match s.channelPlan c with
  | some p => p.openDetect && decide (100 ≤ fieldLevel (s.channel c)) && decide (tget s.pins.loadCurrent c < 2)
  | none => false

/-- R36: the reserved capacity of a zone, the sum of the capacity points of its reserved channels. -/
def reservedCapacity (s : State) (z : Fin 12) : Nat :=
  (allChannels.map fun c =>
    match s.channelPlan c with
    | some p => if p.zone = z ∧ tget s.adm.reserved c = true then p.capacity else 0
    | none => 0).sum

/-- R3: the plan gate. -/
def planGate (s : State) : Bool :=
  s.adm.campaign == .idle && allStations.all fun n => s.stationState n != some .stranded

/-- R100: an input that is converted. -/
def convertible (s : State) (i : Fin 8) : Bool :=
  match s.sensorPlan i with
  | some p => p.kind != .unused
  | none => false

/-- R107: the stale limit of a configuration, in ms. -/
def staleLimit (c : ScanConfig) : Nat :=
  match c.mode, c.trigger with
  | .cyclic, .period => 3 * c.period
  | .cyclic, .mark => 3000
  | _, _ => 5000

/-- R104: the age of an input in ticks. -/
def inputAge (s : State) (i : Fin 8) : Option Nat := ((s.input i).ageFrom).map fun t => s.now - t

/-- R109: the configured inputs of a law, ascending. -/
def lawInputs : Law → List (Fin 8)
  | .none => []
  | .light i _ _ => [i]
  | .vent co _ _ ext _ _ =>
    match co, ext with
    | some a, some b => if a < b then [a, b] else if b < a then [b, a] else [a]
    | some a, none => [a]
    | none, some b => [b]
    | none, none => []

/-- R111: the configured inputs that are invalid. -/
def invalidInputs (s : State) (l : Law) : List (Fin 8) := (lawInputs l).filter fun i => !(s.input i).valid

/-- R39: the FREE lanes below lanes-in-use. -/
def freeLanes (s : State) : List (Fin 4) :=
  match s.adm.params with
  | some p => allLanes.filter fun l => decide (l.val < p.lanesInUse) && ((s.laneRec l).stage == .free)
  | none => []

end Sys2Proof.Machine
end

