-- ==== Sys2Proof/Machine/Timing.lean ====
section
/-! DEFINITION. The passing of local time (log 3): the instant rises, and with it the deglitch counts of the fault
detectors (R92), of the ready lines (R47) and of the incident line (R123). Every timer is held as the instant at which
it runs out, so it needs no change. -/

namespace Sys2Proof.Machine

/-- R92: a deglitch progress after `dt` ticks in which its condition holds or not. -/
def progressAfter (dt : Nat) (holds : Bool) (p : Nat) : Nat := if holds then p + dt else 0

/-- R92, R93, R95: the two detectors of a channel after `dt` ticks. While the OPEN flag is set its detector counts the
absence of the condition. -/
def detectorsAfter (dt : Nat) (s : State) (c : Fin 32) (r : Channel) : Channel :=
  { r with
    overloadProgress := progressAfter dt (overloadCondition s c) r.overloadProgress
    openProgress := progressAfter dt (openCondition s c != r.openFlag) r.openProgress }

/-- `dt` ticks of local time pass. -/
def advance (dt : Nat) (s : State) : State :=
  if dt = 0 then s
  else
    { s with
      now := s.now + dt
      chan := { s.chan with channels := tmap (detectorsAfter dt s) s.chan.channels }
      lane := { s.lane with
        readyCount := tmap (fun n k => progressAfter dt (tget s.pins.ready n != tget s.lane.ready n) k)
          s.lane.readyCount }
      inc := { s.inc with lineCount := progressAfter dt (s.pins.incident != s.inc.line) s.inc.lineCount } }

/-- Local time reaches the instant `t`, unless it has passed it (log 3). -/
def reach (t : Nat) (s : State) : State := advance (t - s.now) s

/-- Local time reaches the instant at which a running timer expires. -/
def reachTimer (t : Option Nat) (s : State) : State :=
  match t with
  | some t => reach t s
  | none => s

/-- The time remaining on a running timer. -/
def remaining (s : State) (t : Option Nat) : Option Nat := t.map fun d => d - s.now

/-- The time remaining on a hold-grace timer. -/
def graceRemaining (s : State) : Grace → Option Nat
  | .running d => some (d - s.now)
  | _ => none

end Sys2Proof.Machine
end

