-- ==== Sys2Proof/Machine/Regulator.lean ====
section
/-! DEFINITION. The Fallback Regulator (R109 to R121): blind flags, demand, zone targets. -/

namespace Sys2Proof.Machine

/-- A quotient rounded up. -/
def ceilDiv (a b : Nat) : Nat := (a + b - 1) / b

/-- R112: D_light. -/
def lightDemand (lum k lfull : Nat) : Nat := min 1000 (ceilDiv (lum * k) lfull)

/-- R113: the partial demand of a reading between its thresholds. -/
def partialDemand (v lo hi : Nat) : Nat :=
  if v ≤ lo then 0 else if hi ≤ v then 1000 else ceilDiv ((v - lo) * 1000) (hi - lo)

/-- The filtered value of an input. -/
def reading (s : State) (i : Fin 8) : Nat := ((s.input i).filtered).getD 0

/-- R113, R115: what an input of a VENT law contributes; an absent or invalid input contributes nothing. -/
def ventPart (s : State) (i : Option (Fin 8)) (lo hi : Nat) : Nat :=
  match i with
  | some i => if (s.input i).valid then partialDemand (reading s i) lo hi else 0
  | none => 0

/-- R112 to R115: the demand of a zone under its law, as the inputs stand. -/
def demandOf (s : State) (p : ZonePlan) : Nat :=
  match p.law with
  | .none => p.baseLevel
  | .light i k lfull =>
    if (s.input i).valid then max p.baseLevel (lightDemand (reading s i) k lfull) else max p.baseLevel p.blindLevel
  | .vent co coLow coHigh ext extLow extHigh =>
    let d := max (ventPart s co coLow coHigh) (ventPart s ext extLow extHigh)
    if invalidInputs s p.law = [] then max p.baseLevel d else max (max p.baseLevel p.blindLevel) d

/-- The contents of a NOTE_ZONE (R121). -/
def zoneNotice (z : Fin 12) (r : ZoneRec) : Notice := .zone z r.blind r.blindInputs r.demand r.target r.trackCount

/-- Stores a zone's blind flag and list, with a NOTE_ZONE for a change of the flag, or of the list while the flag
stays set (R111). The notice carries the demand, the target and the TRACK count as they stand at the forming of the flag,
before the later steps of R110 and R116 in the same event (DESIGN CHOICE, log 37). -/
def setBlind (z : Fin 12) (bad : List (Fin 8)) (s : State) : State :=
  let r := s.zoneRec z
  let r' := { r with blind := !bad.isEmpty, blindInputs := bad }
  let s' := s.setZoneRec z r'
  if r.blind ≠ r'.blind ∨ (r'.blind = true ∧ r.blindInputs ≠ bad) then s'.emit .regulator (zoneNotice z r') else s'

/-- R111: forms the blind flag of a defined zone whose law is not NONE. -/
def formBlind (z : Fin 12) (s : State) : State :=
  match s.zonePlan z with
  | some p => if p.law = .none then s else setBlind z (invalidInputs s p.law) s
  | none => s

/-- R111: forms every blind flag. -/
def formAllBlind (s : State) : State := allZones.foldl (fun s z => formBlind z s) s

/-- R111, R120: the plan leaves READY: every set flag is cleared and every list emptied, one notice for each. -/
def clearAllBlind (s : State) : State := allZones.foldl (fun s z => setBlind z [] s) s

/-- R116: creates the zone's target, with no dead band applied. -/
def createTarget (z : Fin 12) (s : State) : State :=
  match s.zonePlan z with
  | some p =>
    let s := formBlind z s
    let d := demandOf s p
    s.setZoneRec z { s.zoneRec z with demand := some d, target := some d }
  | none => s

/-- R116: the Regulator counts a channel's entry into TRACK; the first entry of a zone creates the target. -/
def countTrackEntry (z : Fin 12) (s : State) : State :=
  let s := if (s.zoneRec z).trackCount = 0 then createTarget z s else s
  s.setZoneRec z { s.zoneRec z with trackCount := (s.zoneRec z).trackCount + 1 }

/-- R118: the Regulator counts a channel's exit from TRACK; at 0 the target and the demand become absent. -/
def countTrackExit (z : Fin 12) (s : State) : State :=
  let r := s.zoneRec z
  if r.trackCount ≤ 1 then s.setZoneRec z { r with trackCount := 0, demand := none, target := none }
  else s.setZoneRec z { r with trackCount := r.trackCount - 1 }

/-- R83, R119: the channel target of a zone target. -/
def channelTarget (p : ChannelPlan) (zoneTarget : Nat) : Nat := clamp p.minLevel p.maxLevel zoneTarget

/-- R83, R117: a replaced zone target reaches every TRACK channel of the zone. -/
def retarget (s : State) (z : Fin 12) (d : Nat) : Vector Channel 32 :=
  tmap (fun c r =>
    match s.channelPlan c with
    | some p => if p.zone = z ∧ r.mode = .track then { r with target := some (channelTarget p d) } else r
    | none => r) s.chan.channels

/-- R117: whether a newly computed demand replaces the present target. -/
def replaces (deadBand d : Nat) (target : Option Nat) : Bool :=
  match target with
  | some t => decide (deadBand ≤ dist d t) || d == 1000
  | none => true

/-- R110, step 2, and R117, on one zone. -/
def regulateZone (z : Fin 12) (s : State) : State :=
  match s.zonePlan z with
  | some p =>
    if (s.zoneRec z).trackCount = 0 ∨ p.law = .none then s
    else
      let d := demandOf s p
      let r := { s.zoneRec z with demand := some d }
      if replaces p.deadBand d r.target then
        let s := s.setZoneRec z { r with target := some d }
        s.setChan { s.chan with channels := retarget s z d }
      else s.setZoneRec z r
  | none => s

/-- R110: the Regulator at a boundary of the regulation period. -/
def regulate (s : State) : State :=
  let s := if s.plan.state = .ready then formAllBlind s else s
  allZones.foldl (fun s z => regulateZone z s) s

end Sys2Proof.Machine
end

