-- ==== Sys2Proof/Machine/Channels.lean ====
section
/-! DEFINITION. The Channel Unit (R76 to R97): the mode orders of R78, ramping, reversal, the fault flags. -/

namespace Sys2Proof.Machine

/-- R118: a channel in TRACK leaves it. -/
def leaveTrack (c : Fin 32) (s : State) : State :=
  if (s.channel c).mode = .track then
    match s.zoneOf c with
    | some z => countTrackExit z s
    | none => s
  else s

/-! ### Reversal (R87 to R90) -/

/-- R89: the reversal completes. -/
def completeReversal (r : Channel) : Channel :=
  { r with sense := r.reversalSense.getD r.sense, reversal := .none, reversalSense := none, dwellUntil := none }

/-- The run-down dwell of a channel's zone, in s. -/
def dwellTime (s : State) (c : Fin 32) : Nat :=
  match s.zoneOf c with
  | some z => ((s.zonePlan z).map (·.dwell)).getD 0
  | none => 0

/-- R88: the run-down is complete; a dwell of 0 s completes in the same event. -/
def startDwell (now dwell : Nat) (r : Channel) : Channel :=
  if dwell = 0 then completeReversal r
  else { r with reversal := .dwell, dwellUntil := some (now + ticksOfSec dwell) }

/-- R87: a reversal starts toward the required sense. -/
def startReversal (now dwell : Nat) (required : Sense) (r : Channel) : Channel :=
  let r := { r with reversal := .rundown, reversalSense := some required }
  if r.level = 0 then startDwell now dwell r else r

/-- R90: the reversal is cancelled; the driven sense is unchanged. -/
def cancelReversal (r : Channel) : Channel :=
  { r with reversal := .none, reversalSense := none, dwellUntil := none }

/-- R84: the required sense of a channel at INCIDENT entry. -/
def requiredSense (vent : Bool) (k : IncidentSense) (r : Channel) : Sense :=
  if vent then
    match k with
    | .forward => .forward
    | .reverse => .reverse
    | .keep => if r.reversal = .none then r.sense else r.reversalSense.getD r.sense
  else .forward

/-- R84: what becomes of the reversal of a VENT channel at INCIDENT entry. -/
def reversalAtIncident (now dwell : Nat) (vent : Bool) (required : Sense) (r : Channel) : Channel :=
  if vent then
    if r.reversal = .none then
      if required ≠ r.sense then startReversal now dwell required r else r
    else if r.reversalSense = some required then r
    else cancelReversal r
  else r

/-! ### Mode orders (R78) -/

/-- The follow order on the record (R81). -/
def followed (r : Channel) : Channel :=
  { r with mode := .follow, relay := false, stage := false, target := none, reversal := .none, reversalSense := none,
           dwellUntil := none }

/-- The follow order: any mode to FOLLOW. -/
def followOrder (c : Fin 32) (s : State) : State :=
  if (s.channel c).mode = .follow then s
  else
    let s := leaveTrack c s
    s.setChannel c (followed (s.channel c))

/-- The incident order: HOLD or TRACK to INCIDENT (R84). -/
def incidentOrder (c : Fin 32) (s : State) : State :=
  match s.channelPlan c with
  | some p =>
    if (s.channel c).mode = .hold ∨ (s.channel c).mode = .track then
      let s := leaveTrack c s
      let r := s.channel c
      let vent := s.isVent c
      let required := requiredSense vent p.incidentSense r
      s.setChannel c (reversalAtIncident s.now (dwellTime s c) vent required
        { r with mode := .incident, target := some p.incidentLevel })
    else s
  | none => s

/-- The capture order: FOLLOW to HOLD at the measured level and sense (R52, R82). -/
def captureOrder (c : Fin 32) (s : State) : State :=
  let r := s.channel c
  if r.mode = .follow then
    s.setChannel c { r with
      mode := .hold, relay := true, stage := !r.overload, level := r.observedLevel,
      sense := if s.isVent c then r.observedSense else .forward, target := some r.observedLevel }
  else s

/-- The hold-in-place order: TRACK to HOLD at the driven level (R62, R82). -/
def holdInPlaceOrder (c : Fin 32) (s : State) : State :=
  if (s.channel c).mode = .track then
    let s := leaveTrack c s
    let r := s.channel c
    s.setChannel c { r with mode := .hold, target := some r.level }
  else s

/-- The hold-keeping-target order: INCIDENT to HOLD (R82, R132). -/
def holdKeepOrder (c : Fin 32) (s : State) : State :=
  let r := s.channel c
  if r.mode = .incident then s.setChannel c { r with mode := .hold } else s

/-- The track order: HOLD or INCIDENT to TRACK on the channel target (R83, R116). -/
def trackOrder (c : Fin 32) (s : State) : State :=
  match s.channelPlan c with
  | some p =>
    if (s.channel c).mode = .hold ∨ (s.channel c).mode = .incident then
      let s := countTrackEntry p.zone s
      s.setChannel c { s.channel c with
        mode := .track, target := ((s.zoneRec p.zone).target).map (channelTarget p) }
    else s
  | none => s

/-- R65, R66: a HOLD channel whose zone's law is not NONE enters TRACK. -/
def takeOver (c : Fin 32) (s : State) : State :=
  if (s.channel c).mode = .hold ∧ s.lawOf c ≠ .none then trackOrder c s else s

/-- R65, R66: the station's HOLD channels are taken over by fallback regulation. -/
def takeOverStation (n : Fin 16) (s : State) : State := (s.bound n).foldl (fun s c => takeOver c s) s

/-- R66: at a lane entry or a strand, when the station's hold-grace timer is EXPIRED. -/
def takeOverIfExpired (n : Fin 16) (s : State) : State :=
  if s.grace n = .expired then takeOverStation n s else s

/-- Every bound channel of a station is settled (R62). -/
def allSettled (s : State) (n : Fin 16) : Bool := (s.bound n).all fun c => settled (s.channel c)

/-! ### Ramping (R85) -/

/-- The aim of a step. -/
def aimOf (r : Channel) : Nat :=
  match r.reversal with
  | .rundown => 0
  | .dwell => r.level
  | .none => r.target.getD r.level

/-- The step size by mode and direction. -/
def stepOf (p : ChannelPlan) (r : Channel) : Nat :=
  if r.mode = .incident then p.incidentRamp else if r.level < aimOf r then p.rampUp else p.rampDown

/-- A level moved toward an aim by at most a step. -/
def moveToward (step aim level : Nat) : Nat :=
  if dist level aim ≤ step then aim else if level < aim then level + step else level - step

/-- R85, R88: one ramp step of a channel. -/
def rampStep (now dwell : Nat) (p : ChannelPlan) (r : Channel) : Channel :=
  if r.mode = .follow then r
  else
    let r' := { r with level := moveToward (stepOf p r) (aimOf r) r.level }
    if r'.reversal = .rundown ∧ r'.level = 0 then startDwell now dwell r' else r'

/-- R85: one ramp step on every driven channel. -/
def rampAll (s : State) : State :=
  s.setChan { s.chan with
    channels := tmap (fun c r =>
      match s.channelPlan c with
      | some p => rampStep s.now (dwellTime s c) p r
      | none => r) s.chan.channels }

/-! ### Fault flags (R92 to R96) -/

/-- The contents of a NOTE_CHANNEL (R96). -/
def channelNotice (c : Fin 32) (f : FaultFlag) (v : Bool) (r : Channel) : Notice :=
  .channel c f v r.overload r.openFlag r.mode r.level r.stage

/-- Sets the OPEN flag with its notice; its detector counts afresh. -/
def setOpenFlag (c : Fin 32) (v : Bool) (s : State) : State :=
  let r := { s.channel c with openFlag := v, openProgress := 0 }
  (s.setChannel c r).emit .channels (channelNotice c .openLoad v r)

/-- R93: the OVERLOAD latch is set; in a driven mode the output stage is switched off. -/
def latchOverload (c : Fin 32) (s : State) : State :=
  if (s.channelPlan c).isSome ∧ (s.channel c).overload = false then
    let r := { s.channel c with overload := true, stage := false }
    (s.setChannel c r).emit .channels (channelNotice c .overload true r)
  else s

/-- R94: the OVERLOAD latch is cleared; in a driven mode the output stage comes on at the present driven level. -/
def clearOverload (c : Fin 32) (s : State) : State :=
  let r := s.channel c
  let r := { r with overload := false, stage := decide (r.mode ≠ .follow), overloadProgress := 0 }
  (s.setChannel c r).emit .channels (channelNotice c .overload false r)

/-- R92: the record of a channel has been rewritten: both detectors start afresh, and a set OPEN flag is cleared when
open-load detect is off. -/
def restartDetectors (c : Fin 32) (openDetect : Bool) (s : State) : State :=
  let s := s.setChannel c { s.channel c with overloadProgress := 0, openProgress := 0 }
  if (s.channel c).openFlag ∧ openDetect = false then setOpenFlag c false s else s

/-- R13: fault detection stops on every channel; a set OPEN flag clears. -/
def stopDetectors (s : State) : State := allChannels.foldl (fun s c => restartDetectors c false s) s

/-! ### Measurement (R79) -/

/-- R79: the three values a measurement stores in a channel record. -/
def measured (level current : Nat) (sense : Sense) (r : Channel) : Channel :=
  { r with observedLevel := min 1000 level, observedSense := sense, loadCurrent := min 600 current }

/-- R79: the completion of a measurement of the pins, for all channels. -/
def measureAll (s : State) : State :=
  s.setChan { s.chan with
    channels := tmap (fun c r =>
      measured (tget s.pins.stationLevel c) (tget s.pins.loadCurrent c) (tget s.pins.stationSense c) r)
      s.chan.channels }

end Sys2Proof.Machine
end

