-- ==== Sys2Proof/Machine/Frames.lean ====
section
/-! DEFINITION. Characters on a line (R138, R140, R172); bytes: little-endian fields, the CRC of R142, the codes of R189 and
R190, the frames and bodies whose layout the spec gives (R188, R190 to R195), the divisor of R139. -/

namespace Sys2Proof

/-- R138: the even-parity bit of a character: the number of ones among the data bits and the parity bit is even. -/
def evenParity (b : Byte) : Bool := (List.range 8).foldl (fun p i => p != b.getLsbD i) false

/-- R140: the parity bit does not give even parity. -/
def RxChar.parityError (c : RxChar) : Bool := c.parityBit != evenParity c.value

/-- R140: the stop bit is received at the start level. -/
def RxChar.framingError (c : RxChar) : Bool := !c.stopBit

/-- A character received without errors. -/
def RxChar.clean (b : Byte) : RxChar := { value := b, parityBit := evenParity b, stopBit := true }

end Sys2Proof

namespace Sys2Proof.Machine

/-! ### Characters (R138, R172) -/

/-- R138: the idle line is held at the stop level. -/
def idleLevel : Bool := true

/-- R138, R172: the eleven bits of a character in the order sent: a start bit, 8 data bits least significant first, the
even-parity bit, a stop bit. -/
def charBits (b : Byte) : List Bool := (!idleLevel) :: ((List.range 8).map b.getLsbD ++ [evenParity b, idleLevel])

/-- R138, R140: the character of eleven bits received; any other number of bits is none. -/
def charOfBits (bits : List Bool) : Option RxChar :=
  match bits with
  | [_, b0, b1, b2, b3, b4, b5, b6, b7, p, stop] =>
    some { value := BitVec.ofBoolListLE [b0, b1, b2, b3, b4, b5, b6, b7], parityBit := p, stopBit := stop }
  | _ => none

/-- 20 ms, the longest gap inside a frame (R141, R173). -/
def gapTicks : Nat := 320000

/-- R140, R141: the idle time from the end of the latest character, at `gapFrom`, to the start bit of a character that
lasts `ticks` and ends at `now` exceeds 20 ms. -/
def gapExceeded (now ticks gapFrom : Nat) : Bool := decide (gapTicks < now - ticks - gapFrom)

/-- A byte of a number. -/
def byteOf (n : Nat) : Byte := BitVec.ofNat 8 n

/-- Multi-byte fields go least significant byte first (R188, R190). -/
def bytes2 (n : Nat) : List Byte := [byteOf n, byteOf (n / 256)]
def bytes4 (n : Nat) : List Byte := [byteOf n, byteOf (n / 256), byteOf (n / 65536), byteOf (n / 16777216)]
def nat2 (a b : Byte) : Nat := a.toNat + 256 * b.toNat
def nat4 (a b c d : Byte) : Nat := a.toNat + 256 * b.toNat + 65536 * c.toNat + 16777216 * d.toNat
def flagByte (b : Bool) : Byte := if b then 1 else 0

/-! ### The CRC (R142) -/

/-- One bit of the register's division by x^16 + x^12 + x^5 + 1. -/
def crcShift (r : Word16) : Word16 := if r.msb then (r <<< 1) ^^^ 0x1021 else r <<< 1

/-- One byte enters, most significant bit first. -/
def crcByte (r : Word16) (b : Byte) : Word16 :=
  let x := r ^^^ (b.setWidth 16 <<< 8)
  crcShift (crcShift (crcShift (crcShift (crcShift (crcShift (crcShift (crcShift x)))))))

/-- The CRC of the covered bytes, in the order sent, from a register of 0xFFFF. -/
def crc (bytes : List Byte) : Word16 := bytes.foldl crcByte 0xFFFF

/-- The two CRC characters, low byte first. -/
def crcBytes (r : Word16) : List Byte := bytes2 r.toNat

/-! ### Field frames (R190) -/

/-- The bytes a field frame's CRC covers. -/
def fieldCovered (station kind : Byte) (body : List Byte) : List Byte :=
  station :: kind :: byteOf body.length :: body

/-- R143. -/
def fieldFrameGood (f : FieldFrame) : Bool :=
  decide (f.parityErrors = 0) && decide (f.framingErrors = 0) && (crc (fieldCovered f.station f.kind f.body) == f.crc)

/-- The kinds the part sends. -/
def dialogueCode : DialogueKind → Byte
  | .freeze => 1
  | .thaw => 2
  | .restore => 3
  | .align => 4
  | .release => 5

/-- A field frame as the part sends it (R147). -/
def fieldFrameBytes (station : Fin 16) (kind : DialogueKind) (body : List Byte) : List Byte :=
  let covered := fieldCovered (byteOf station.val) (dialogueCode kind) body
  0x5A :: covered ++ crcBytes (crc covered)

/-- The kinds a station sends. -/
inductive ReplyKind where
  | frozen
  | nack
  | ack
  | restored
  | reject
  | aligned
deriving DecidableEq, Repr

/-- R190. -/
def replyKindOf (b : Byte) : Option ReplyKind :=
  match b.toNat with
  | 0x41 => some .frozen
  | 0x42 => some .nack
  | 0x43 => some .ack
  | 0x44 => some .restored
  | 0x45 => some .reject
  | 0x46 => some .aligned
  | _ => none

/-- R148: the reply kinds a dialogue expects. -/
def expects : DialogueKind → ReplyKind → Bool
  | .freeze, .frozen | .freeze, .nack | .thaw, .ack | .restore, .restored | .restore, .reject | .align, .aligned
  | .align, .nack | .release, .ack => true
  | _, _ => false

/-- A well-laid-out FROZEN body (R193): mode byte, entries of level and sense code, checkpoint. -/
structure Frozen where
  modeByte : Byte
  entries : List (Nat × Nat)
  checkpoint : List Byte
deriving DecidableEq, Repr

/-- Level-and-sense entries of three bytes each (R190). -/
def levelEntries : List Byte → List (Nat × Nat)
  | a :: b :: c :: rest => (nat2 a b, c.toNat) :: levelEntries rest
  | _ => []

/-- R148, R193: a consistent FROZEN body, of length exactly 3 + 3n + c. -/
def frozenOf (body : List Byte) : Option Frozen :=
  match body with
  | m :: n :: rest =>
    let entries := rest.take (3 * n.toNat)
    match rest.drop (3 * n.toNat) with
    | c :: cp =>
      if entries.length = 3 * n.toNat ∧ cp.length = c.toNat then
        some { modeByte := m, entries := levelEntries entries, checkpoint := cp }
      else none
    | [] => none
  | _ => none

/-- R148: the body length admitted. -/
def bodyAdmitted (k : ReplyKind) (body : List Byte) : Bool :=
  match k with
  | .frozen => (frozenOf body).isSome
  | _ => body.isEmpty

/-- R190: FORWARD 0, REVERSE 1. -/
def senseCode : Sense → Byte
  | .forward => 0
  | .reverse => 1

/-- R190: the level-and-sense entry of a channel, from what the part drives. -/
def levelEntry (s : State) (c : Fin 32) : List Byte := bytes2 (s.channel c).level ++ [senseCode (s.channel c).sense]

/-- The channel count and one entry for each bound channel, in channel order (R190, R194). -/
def channelList (s : State) (n : Fin 16) : List Byte :=
  byteOf (s.bound n).length :: (s.bound n).flatMap (levelEntry s)

/-- R189. -/
def timeStateCode : TimeState → Byte
  | .unset => 0
  | .coarse => 1
  | .fine => 2
  | .holdover => 3

/-- R161: the microsecond part at the present instant. -/
def microPart (s : State) : Nat :=
  match s.time.last with
  | some (t, _) =>
    if s.now - t < s.time.rateP then (s.now - t) * 1000000 / s.time.rateP else 999999
  | none => 0

/-- Tunnel time at the present instant, absent in UNSET (R161). -/
def tunnelTime (s : State) : Option TunnelTime :=
  if s.time.state = .unset then none
  else
    match s.time.day, s.time.second with
    | some d, some sec => some { day := d, second := sec, micro := microPart s }
    | _, _ => none

/-- R59, R194: the body of a RESTORE message, in the mode given. -/
def restoreBody (s : State) (n : Fin 16) (mode : RestoreMode) : List Byte :=
  let t := (tunnelTime s).getD { day := 0, second := 0, micro := 0 }
  let head := bytes2 t.day ++ bytes4 t.second ++ bytes2 (t.micro / 1000) ++
    [timeStateCode s.time.state, flagByte (condition s.inc)]
  match mode, (s.station n).bind (·.checkpoint) with
  | .warm, some cp =>
    head ++ [1, cp.modeByte, byteOf cp.bytes.length] ++ cp.bytes ++ channelList s n
  | _, _ => head ++ [0] ++ channelList s n

/-! ### Host frames (R188) -/

/-- The bytes a host frame's CRC covers (R174). -/
def hostCovered (kind tag : Byte) (body : List Byte) : List Byte := bytes2 (body.length + 2) ++ (kind :: tag :: body)

/-! ### The divisor (R139) -/

/-- The divisor of a rate: 16,000,000 / (16 × rate), halves rounded up. -/
def divisorOf (rate : Nat) : Nat := (16000000 + 8 * rate) / (16 * rate)

/-- The divisor error in ppm. -/
def divisorError (rate : Nat) : Nat := dist (divisorOf rate * 16 * rate) 16000000 / 16

/-- R5, R139: a rate the part accepts. -/
def rateAccepted (rate : Nat) : Bool :=
  decide (300 ≤ rate) && decide (rate ≤ 115200) && decide (divisorError rate ≤ 20000)

/-- R138, R139: the ticks that `n` characters occupy, 11 bit times each, one bit lasting 16 divisors. -/
def charTicks (divisor n : Nat) : Nat := n * 11 * 16 * divisor

/-! ### Codes of the host link (R189) -/

def statusCode : Status → Byte
  | .ok => 0
  | .unknownKind => 1
  | .badLength => 2
  | .badField => 3
  | .notDefined => 4
  | .wrongState => 5
  | .duplicate => 6
  | .queueFull => 7
  | .busy => 8
  | .planInvalid => 9
  | .rateError => 10

def planStateCode : PlanState → Byte
  | .empty => 0
  | .draft => 1
  | .ready => 2

def campaignStateCode : CampaignState → Byte
  | .idle => 0
  | .running => 1
  | .halted => 2
  | .aborting => 3
  | .ended => 4

def stationStateCode : StationState → Byte
  | .idle => 0
  | .queued => 1
  | .active => 2
  | .done => 3
  | .declined => 4
  | .stranded => 5
  | .cancelled => 6

def stageCode : Stage → Byte
  | .free => 0
  | .capture => 1
  | .rollback => 2
  | .restart => 3
  | .boot => 4
  | .restore => 5
  | .prepare => 6
  | .align => 7
  | .matching => 8
  | .release => 9

def reasonCode : Option Reason → Byte
  | none => 0
  | some .noFreeze => 1
  | some .freezeRefused => 2
  | some .captureMismatch => 3
  | some .protocol => 4
  | some .noRestartSeen => 5
  | some .bootTimeout => 6
  | some .rebooted => 7
  | some .restoreTimeout => 8
  | some .restoreRejected => 9
  | some .alignFailed => 10
  | some .incident => 11
  | some .aborted => 12

def blockReasonCode : BlockReason → Byte
  | .none => 0
  | .cover => 1
  | .settle => 2
  | .pin => 3
  | .portFault => 4

def zoneKindCode : ZoneKind → Byte
  | .vent => 0
  | .light => 1

def sensorKindCode : SensorKind → Byte
  | .unused => 0
  | .luminance => 1
  | .co => 2
  | .extinction => 3

def incidentSenseCode : IncidentSense → Byte
  | .forward => 0
  | .reverse => 1
  | .keep => 2

def thresholdCode : Threshold → Byte
  | .low => 0
  | .high => 1

def scanModeCode : ScanMode → Byte
  | .single => 0
  | .sequence => 1
  | .cyclic => 2

def triggerCode : Trigger → Byte
  | .request => 0
  | .period => 1
  | .mark => 2

/-- R195: an input number of a zone law, 0xFF for none. -/
def inputCode : Option (Fin 8) → Byte
  | some i => byteOf i.val
  | none => 0xFF

/-! ### Records as stored, in the layout of the request that writes them (R195) -/

def stationRecordBytes (n : Fin 16) (r : StationPlan) : List Byte :=
  byteOf n.val :: (bytes4 r.bitRate ++ bytes2 r.restartPulse ++ bytes2 r.bootTimeout ++ bytes2 r.dialogueTimeout ++
    [byteOf r.alignTimeout, byteOf r.captureTolerance, byteOf r.handbackTolerance] ++ bytes2 r.holdGrace ++
    [byteOf r.retryLimit])

/-- The law code and the full law parameter block; a parameter the law does not hold is stored as absent or 0 (R8;
log 13). -/
def lawBytes : Law → List Byte
  | .none => 0 :: 0xFF :: (bytes2 0 ++ bytes2 0 ++ [0xFF] ++ bytes2 0 ++ bytes2 0 ++ [0xFF] ++ bytes2 0 ++ bytes2 0)
  | .light i k lfull =>
    1 :: byteOf i.val :: (bytes2 k ++ bytes2 lfull ++ [0xFF] ++ bytes2 0 ++ bytes2 0 ++ [0xFF] ++ bytes2 0 ++ bytes2 0)
  | .vent co coLow coHigh ext extLow extHigh =>
    2 :: 0xFF :: (bytes2 0 ++ bytes2 0 ++ [inputCode co] ++ bytes2 coLow ++ bytes2 coHigh ++ [inputCode ext] ++
      bytes2 extLow ++ bytes2 extHigh)

def zoneRecordBytes (n : Fin 12) (r : ZonePlan) : List Byte :=
  byteOf n.val :: zoneKindCode r.kind :: (bytes2 r.holdLimit ++ bytes2 r.settleTime ++
    [byteOf r.dwell, byteOf r.deadBand] ++ bytes2 r.baseLevel ++ bytes2 r.blindLevel ++ lawBytes r.law)

def channelRecordBytes (n : Fin 32) (r : ChannelPlan) : List Byte :=
  byteOf n.val :: byteOf r.owner.val :: byteOf r.zone.val ::
    (bytes2 r.capacity ++ bytes2 r.minLevel ++ bytes2 r.maxLevel ++ bytes2 r.rampUp ++ bytes2 r.rampDown ++
      bytes2 r.incidentLevel ++ [incidentSenseCode r.incidentSense] ++ bytes2 r.incidentRamp ++
      [thresholdCode r.threshold, byteOf r.deglitch, flagByte r.openDetect])

def sensorRecordBytes (n : Fin 8) (r : SensorPlan) : List Byte :=
  byteOf n.val :: sensorKindCode r.kind :: (bytes2 r.rawBroken ++ bytes2 r.rawLo ++ bytes2 r.rawHi ++
    bytes2 r.valueLo ++ bytes2 r.valueHi ++ [byteOf r.shift])

def scanConfigBytes (c : ScanConfig) : List Byte :=
  scanModeCode c.mode :: triggerCode c.trigger :: (bytes2 c.period ++ [byteOf c.count, byteOf c.single.val])

/-- R186: an entry of the queue: station, class, pre-captured flag, pass-over count, pinned flag, last block reason, each one
character wide by the codings of R189 and R195 (log 38). -/
def queueEntryBytes (e : QueueEntry) : List Byte :=
  [byteOf e.station.val, byteOf e.cls.val, flagByte e.preCaptured, byteOf e.passOver, flagByte e.pinned,
    blockReasonCode e.block]

/-- The items of a reply whose layout the spec gives (R14, R177, R186, R191, R195): a record as stored has the layout of
the request body that writes it, and the derived values of READ_PLAN follow it while they are held (log 38). The others
have none (log 16). -/
def itemBytes : Items → Option (List Byte)
  | .none => some []
  | .kindReceived k => some [k]
  | .position i => some [byteOf i]
  | .check code index => some [byteOf code, byteOf index]
  | .station n r => some (stationRecordBytes n r)
  | .zone n r => some (zoneRecordBytes n r)
  | .channel n r => some (channelRecordBytes n r)
  | .sensor n r => some (sensorRecordBytes n r)
  | .readStationPlan n r bound =>
    some (stationRecordBytes n r ++ (bound.map fun l => l.map fun c => byteOf c.val).getD [])
  | .readZonePlan n r totalAndCount =>
    some (zoneRecordBytes n r ++ (totalAndCount.map fun p => bytes2 p.1 ++ [byteOf p.2]).getD [])
  | .readChannelPlan n r kind => some (channelRecordBytes n r ++ (kind.map fun k => [zoneKindCode k]).getD [])
  | .readSensorPlan n r => some (sensorRecordBytes n r)
  | .queue entries => some (byteOf entries.length :: entries.flatMap queueEntryBytes)
  | .scanConfig c => some (scanConfigBytes c)
  | .status rev plan camp cond line host time lost parity framing crcs len overr =>
    some ([byteOf rev, planStateCode plan, campaignStateCode camp, flagByte cond, flagByte line, flagByte host,
      timeStateCode time, flagByte lost] ++ bytes2 parity ++ bytes2 framing ++ bytes2 crcs ++ bytes2 len ++
      bytes2 overr)
  | .enableSet v => some [v.setWidth 8]
  | .scope full => some [flagByte full]
  | _ => none

/-- The body of a reply: the status character, then the items (R177). -/
def replyBody (r : Reply) : Option (List Byte) := (itemBytes r.items).map (statusCode r.status :: ·)

/-- R192: the body of a NOTE_STATION; the other notices have no layout (log 16). -/
def noticeBody : Notice → Option (List Byte)
  | .station n st lane reason =>
    some [byteOf n.val, stationStateCode st, (lane.map fun p => byteOf p.1.val).getD 0xFF,
      (lane.map fun p => stageCode p.2).getD 0xFF, reasonCode reason]
  | _ => none

/-- R188: a frame of the part on the host link. -/
def hostFrameBytes (kind tag : Byte) (body : List Byte) : List Byte :=
  let covered := hostCovered kind tag body
  0xA5 :: covered ++ crcBytes (crc covered)

end Sys2Proof.Machine
end

