-- ==== Sys2Proof/Machine/Operands.lean ====
section
/-! DEFINITION. The operands of the requests: the fields of their bodies (R184, R185, R187, R195), read from the
characters. A body of another length than the request admits is read as none. -/

namespace Sys2Proof.Machine

/-- A number in a range of `n` numbers. -/
def numberOf (n x : Nat) : Option (Fin n) := if h : x < n then some ⟨x, h⟩ else none

/-! ### Selections (R195); a value outside its list is none -/

def zoneKindOf (x : Nat) : Option ZoneKind :=
  match x with
  | 0 => some .vent
  | 1 => some .light
  | _ => none

def sensorKindOf (x : Nat) : Option SensorKind :=
  match x with
  | 0 => some .unused
  | 1 => some .luminance
  | 2 => some .co
  | 3 => some .extinction
  | _ => none

def incidentSenseOf (x : Nat) : Option IncidentSense :=
  match x with
  | 0 => some .forward
  | 1 => some .reverse
  | 2 => some .keep
  | _ => none

def thresholdOf (x : Nat) : Option Threshold :=
  match x with
  | 0 => some .low
  | 1 => some .high
  | _ => none

def switchOf (x : Nat) : Option Bool :=
  match x with
  | 0 => some false
  | 1 => some true
  | _ => none

def deglitchOf (x : Nat) : Option Nat := if x = 10 ∨ x = 20 ∨ x = 50 ∨ x = 100 then some x else none

def scanModeOf (x : Nat) : Option ScanMode :=
  match x with
  | 0 => some .single
  | 1 => some .sequence
  | 2 => some .cyclic
  | _ => none

def triggerOf (x : Nat) : Option Trigger :=
  match x with
  | 0 => some .request
  | 1 => some .period
  | 2 => some .mark
  | _ => none

/-- An input number of a zone law, 0xFF for none (R195). -/
def inputOrNoneOf (x : Nat) : Option (Option (Fin 8)) := if x = 255 then some none else (numberOf 8 x).map some

/-! ### The bodies -/

/-- No body. -/
def readNone (body : List Byte) : Option Unit := if body = [] then some () else none

/-- One number. -/
def readOne (body : List Byte) : Option Nat :=
  match body with
  | [x] => some x.toNat
  | _ => none

/-- Two numbers. -/
def readTwo (body : List Byte) : Option (Nat × Nat) :=
  match body with
  | [x, y] => some (x.toNat, y.toNat)
  | _ => none

/-- PLAN_STATION: the station number and the nine fields as sent. -/
def readStationFields (body : List Byte) : Option (Nat × StationPlan) :=
  match body with
  | [n, r0, r1, r2, r3, p0, p1, b0, b1, d0, d1, a, ct, ht, g0, g1, rl] =>
    some (n.toNat, {
      bitRate := nat4 r0 r1 r2 r3, restartPulse := nat2 p0 p1, bootTimeout := nat2 b0 b1,
      dialogueTimeout := nat2 d0 d1, alignTimeout := a.toNat, captureTolerance := ct.toNat,
      handbackTolerance := ht.toNat, holdGrace := nat2 g0 g1, retryLimit := rl.toNat })
  | _ => none

/-- The fields of PLAN_ZONE as sent: selections and input numbers as codes. -/
structure ZoneFields where
  zone : Nat
  kind : Nat
  holdLimit : Nat
  settleTime : Nat
  dwell : Nat
  deadBand : Nat
  baseLevel : Nat
  blindLevel : Nat
  law : Nat
  luminance : Nat
  k : Nat
  lfull : Nat
  co : Nat
  coLow : Nat
  coHigh : Nat
  ext : Nat
  extLow : Nat
  extHigh : Nat
deriving DecidableEq, Repr

def readZoneFields (body : List Byte) : Option ZoneFields :=
  match body with
  | [z, kd, h0, h1, s0, s1, dw, db, b0, b1, l0, l1, lw, li, k0, k1, f0, f1, co, cl0, cl1, ch0, ch1, ex, el0, el1,
      eh0, eh1] =>
    some {
      zone := z.toNat, kind := kd.toNat, holdLimit := nat2 h0 h1, settleTime := nat2 s0 s1, dwell := dw.toNat,
      deadBand := db.toNat, baseLevel := nat2 b0 b1, blindLevel := nat2 l0 l1, law := lw.toNat,
      luminance := li.toNat, k := nat2 k0 k1, lfull := nat2 f0 f1, co := co.toNat, coLow := nat2 cl0 cl1,
      coHigh := nat2 ch0 ch1, ext := ex.toNat, extLow := nat2 el0 el1, extHigh := nat2 eh0 eh1 }
  | _ => none

/-- The fields of PLAN_CHANNEL as sent. -/
structure ChannelFields where
  channel : Nat
  owner : Nat
  zone : Nat
  capacity : Nat
  minLevel : Nat
  maxLevel : Nat
  rampUp : Nat
  rampDown : Nat
  incidentLevel : Nat
  incidentSense : Nat
  incidentRamp : Nat
  threshold : Nat
  deglitch : Nat
  openDetect : Nat
deriving DecidableEq, Repr

def readChannelFields (body : List Byte) : Option ChannelFields :=
  match body with
  | [c, o, z, c0, c1, m0, m1, x0, x1, u0, u1, d0, d1, i0, i1, is, r0, r1, th, dg, od] =>
    some {
      channel := c.toNat, owner := o.toNat, zone := z.toNat, capacity := nat2 c0 c1, minLevel := nat2 m0 m1,
      maxLevel := nat2 x0 x1, rampUp := nat2 u0 u1, rampDown := nat2 d0 d1, incidentLevel := nat2 i0 i1,
      incidentSense := is.toNat, incidentRamp := nat2 r0 r1, threshold := th.toNat, deglitch := dg.toNat,
      openDetect := od.toNat }
  | _ => none

/-- The fields of PLAN_SENSOR as sent. -/
structure SensorFields where
  input : Nat
  kind : Nat
  rawBroken : Nat
  rawLo : Nat
  rawHi : Nat
  valueLo : Nat
  valueHi : Nat
  shift : Nat
deriving DecidableEq, Repr

def readSensorFields (body : List Byte) : Option SensorFields :=
  match body with
  | [i, k, b0, b1, l0, l1, h0, h1, v0, v1, w0, w1, sh] =>
    some {
      input := i.toNat, kind := k.toNat, rawBroken := nat2 b0 b1, rawLo := nat2 l0 l1, rawHi := nat2 h0 h1,
      valueLo := nat2 v0 v1, valueHi := nat2 w0 w1, shift := sh.toNat }
  | _ => none

/-- Entries of station and class, two characters each. -/
def entryPairs : List Byte → List (Nat × Nat)
  | a :: b :: rest => (a.toNat, b.toNat) :: entryPairs rest
  | _ => []

/-- A counted list of entries: a count n, then n entries, 1 + 2n characters (R184). -/
def readEntries (body : List Byte) : Option (List (Nat × Nat)) :=
  match body with
  | n :: rest => if rest.length = 2 * n.toNat then some (entryPairs rest) else none
  | [] => none

/-- CAMPAIGN_OPEN: the four parameters as sent, and the entries (R184: 11 + 2n characters). -/
def readOpen (body : List Byte) : Option (CampaignParams × List (Nat × Nat)) :=
  match body with
  | a0 :: a1 :: a2 :: a3 :: e0 :: e1 :: e2 :: e3 :: ln :: po :: rest =>
    (readEntries rest).map fun es =>
      ({ windowStart := nat4 a0 a1 a2 a3, windowEnd := nat4 e0 e1 e2 e3, lanesInUse := ln.toNat,
         passOverLimit := po.toNat }, es)
  | _ => none

/-- The fields of SCAN_CONFIG as sent. -/
structure ScanFields where
  mode : Nat
  trigger : Nat
  period : Nat
  count : Nat
  single : Nat
deriving DecidableEq, Repr

def readScanFields (body : List Byte) : Option ScanFields :=
  match body with
  | [m, t, p0, p1, c, i] =>
    some { mode := m.toNat, trigger := t.toNat, period := nat2 p0 p1, count := c.toNat, single := i.toNat }
  | _ => none

/-- TIME_MARK: a day and a second of day. -/
def readMark (body : List Byte) : Option (Nat × Nat) :=
  match body with
  | [d0, d1, s0, s1, s2, s3] => some (nat2 d0 d1, nat4 s0 s1 s2 s3)
  | _ => none

end Sys2Proof.Machine
end

