-- ==== Sys2Proof/Machine/Ports.lean ====
section
/-! DEFINITION. The Field Port Controller (R137 to R154), but for what the lanes make of an outcome: opening and
abandoning a dialogue, sending, receiving, the counters, the port status. -/

namespace Sys2Proof.Machine

/-- The contents of a NOTE_PORT (R154). -/
def portNotice (n : Fin 16) (p : Port) : Notice :=
  .port n p.faulted p.parity p.framing p.bad p.unexpected p.late p.timeouts p.consecutive

/-- A frame whose first character is sent at `now` (R147). -/
def startSending (now : Nat) (p : Port) (bytes : List Byte) : Sending :=
  { bytes := bytes, bitTicks := 16 * p.divisor.getD 0, doneAt := now + charTicks (p.divisor.getD 0) bytes.length }

/-- R138, R147: the level of a port's transmit line at the present instant: the bit of the frame being sent, characters back
to back, or the idle level. -/
def lineLevel (s : State) (n : Fin 16) : Bool :=
  match (s.port n).sending with
  | some x =>
    let bits := x.bytes.flatMap charBits
    ((bits.drop ((s.now - (x.doneAt - bits.length * x.bitTicks)) / x.bitTicks)).head?).getD idleLevel
  | none => idleLevel

/-- R144, R146, R147: a lane opens a dialogue. On a FAULTED port it fails at once: the answer is `true`, its kind becomes
the late record and no frame is sent. Otherwise its frame is sent, or waits behind the frame being sent; a frame of an
earlier dialogue that still waits there, kept after a reply had ended its dialogue, is replaced and never sent (DESIGN
CHOICE, log 35: the port holds at most one waiting frame, R137). -/
def openDialogue (n : Fin 16) (k : DialogueKind) (body : List Byte) (s : State) : State × Bool :=
  let p := s.port n
  if p.faulted then (s.setPort n { p with lateRecord := some k }, true)
  else
    let bytes := fieldFrameBytes n k body
    match p.sending with
    | none =>
      (s.setPort n { p with
        sending := some (startSending s.now p bytes)
        dialogue := some { kind := k, body := body, transmit := .sending, timer := none } }, false)
    | some _ =>
      (s.setPort n { p with
        waiting := some bytes
        dialogue := some { kind := k, body := body, transmit := .waiting, timer := none } }, false)

/-- R152 on the port record: the dialogue is gone and a frame of it still waiting is dropped; nothing else changes. -/
def abandoned (p : Port) : Port := if p.dialogue.isSome then { p with dialogue := none, waiting := none } else p

/-- R152: a lane abandons its outstanding dialogue. -/
def abandonDialogue (n : Fin 16) (s : State) : State := s.setPort n (abandoned (s.port n))

/-- R146: a reply ends the dialogue. Whether a frame still waiting keeps its place is a free value (log 35). -/
def endByReply (n : Fin 16) (s : State) : State :=
  let p := s.port n
  match p.waiting with
  | none => s.setPort n { p with dialogue := none }
  | some w =>
    (s.setPort n { p with dialogue := none, waiting := if Config.keepsWaiting s.free then some w else none }).setFree
      (s.free + 1)

/-- R150: the dialogue timer has expired. -/
def endByTimeout (n : Fin 16) (k : DialogueKind) (s : State) : State :=
  let p := s.port n
  s.setPort n { p with dialogue := none, timeouts := satInc 255 p.timeouts, lateRecord := some k }

/-- The dialogue timeout of a station, in ticks. -/
def dialogueTicks (s : State) (n : Fin 16) : Nat :=
  ticksOfMs (((s.stationPlan n).map (·.dialogueTimeout)).getD 0)

/-- R147: the last character of the frame has been sent: its dialogue is SENT and its timer starts; a waiting frame
begins. -/
def frameSent (now timeout : Nat) (p : Port) : Port :=
  let sent := p.dialogue.map fun d =>
    if d.transmit = .sending then { d with transmit := .sent, timer := some (now + timeout) } else d
  match p.waiting with
  | none => { p with sending := none, dialogue := sent }
  | some w =>
    { p with
      sending := some (startSending now p w)
      waiting := none
      dialogue := sent.map fun d => if d.transmit = .waiting then { d with transmit := .sending } else d }

/-- R140: a character's errors are counted. -/
def countErrors (c : RxChar) (p : Port) : Port :=
  { p with
    parity := if c.parityError then satInc 255 p.parity else p.parity
    framing := if c.framingError then satInc 255 p.framing else p.framing }

/-- A counter that rises by `k` and saturates at `m`. -/
def satAdd (m k c : Nat) : Nat := if k = 0 then c else min m (c + k)

/-- R140: the errors of the characters of a whole frame are counted (log 6). -/
def countFrameErrors (f : FieldFrame) (p : Port) : Port :=
  { p with parity := satAdd 255 f.parityErrors p.parity, framing := satAdd 255 f.framingErrors p.framing }

/-- R143: a bad frame is counted. -/
def countBad (p : Port) : Port := { p with bad := satInc 255 p.bad, consecutive := satInc 8 p.consecutive }

/-- R144: the port becomes FAULTED: the outstanding dialogue ends, its kind the late record, and a waiting frame is
dropped. -/
def faultPort (p : Port) : Port :=
  { p with
    faulted := true
    dialogue := none
    waiting := none
    lateRecord := match p.dialogue with
      | some d => some d.kind
      | none => p.lateRecord }

/-- R149, test 3: the frame's kind is an expected reply of the recorded kind. -/
def isLate (p : Port) (k : Option ReplyKind) : Bool :=
  match p.lateRecord, k with
  | some d, some k => expects d k
  | _, _ => false

/-- R149, tests 3 and 4: a good frame that ends no dialogue is counted LATE or UNEXPECTED. -/
def countStray (ownStation : Bool) (k : Option ReplyKind) (p : Port) : Port :=
  if ownStation && isLate p k then { p with late := satInc 255 p.late, lateRecord := none }
  else { p with unexpected := satInc 255 p.unexpected }

/-- R145: PORT_RESET on an accepted port. -/
def resetCounters (p : Port) : Port :=
  { p with
    faulted := false, consecutive := 0, parity := 0, framing := 0, bad := 0, unexpected := 0, late := 0, timeouts := 0,
    lateRecord := none }

/-- R153: RESET CAMPAIGN on a port. -/
def campaignResetPort (p : Port) : Port := { p with dialogue := none, waiting := none, lateRecord := none }

/-! ### The frame receiver (R141) -/

/-- What becomes of the receiver at a character. -/
inductive FieldFeed where
  | hunt
  | part (p : FieldPart)
  | taken (f : FieldFrame)
  | abandoned
deriving DecidableEq, Repr

/-- R141: the fields of a frame in order: station, kind, body length, body, CRC. -/
def feedPart (now : Nat) (p : FieldPart) : FieldFeed :=
  match p.chars with
  | st :: k :: n :: rest =>
    if 250 < n.toNat then .abandoned
    else
      match rest.drop n.toNat with
      | [lo, hi] =>
        .taken { station := st, kind := k, body := rest.take n.toNat, crc := BitVec.ofNat 16 (nat2 lo hi),
                 parityErrors := p.parityErrors, framingErrors := p.framingErrors }
      | _ => .part { p with gapFrom := now }
  | _ => .part { p with gapFrom := now }

/-- 1 for an error, to be added to a count. -/
def errorCount (b : Bool) : Nat := if b then 1 else 0

/-- R141: a character reaches the frame receiver. -/
def feedField (now : Nat) (rx : Option FieldPart) (c : RxChar) : FieldFeed :=
  match rx with
  | none =>
    if c.value = 0x5A ∧ c.parityError = false ∧ c.framingError = false then
      .part { chars := [], parityErrors := 0, framingErrors := 0, gapFrom := now }
    else .hunt
  | some p =>
    feedPart now { p with
      chars := p.chars ++ [c.value], parityErrors := p.parityErrors + errorCount c.parityError
      framingErrors := p.framingErrors + errorCount c.framingError }

end Sys2Proof.Machine
end

