-- ==== Sys2Proof/Machine/Admission.lean ====
section
/-! DEFINITION. The Admission Unit (R26, R35 to R43): reservations, the tests of an entry, the admission of an entry
with the start of its lane (R49), the pass with its pass-over counts, the end of the campaign. -/

namespace Sys2Proof.Machine

/-! ### Reservations (R36) -/

/-- Sets or clears the reserved flags of a station's bound channels. -/
def reserveBound (n : Fin 16) (v : Bool) (s : State) : State :=
  s.setAdm { s.adm with reserved := (s.bound n).foldl (fun t c => tset t c v) s.adm.reserved }

/-! ### The start of a lane (R49, R53, R55) -/

/-- R46: a lane's stage changes, with the NOTE_STATION of the held station. -/
def enterStage (l : Fin 4) (n : Fin 16) (st : Stage) (timer : Option Nat) (s : State) : State :=
  noteStation .lanes n (s.setLaneRec l { s.laneRec l with stage := st, timer := timer })

/-- R58: an attempts count rises, never above the retry limit + 1. -/
def raiseAttempts (limit : Nat) (r : StationRec) : StationRec := { r with attempts := min (r.attempts + 1) (limit + 1) }

/-- R55, R66: the entry into RESTART. -/
def restartEntry (l : Fin 4) (n : Fin 16) (s : State) : State :=
  let s := s.modStation n (raiseAttempts (s.retryLimit n))
  let s := s.setLaneRec l { s.laneRec l with seenReadyLow := false }
  let s := s.setRestartLine n true
  let pulse := ((s.stationPlan n).map (·.restartPulse)).getD 0
  let s := enterStage l n .restart (some (s.now + ticksOfMs pulse)) s
  takeOverIfExpired n s

/-- R53, steps 1 and 2: the entry into ROLLBACK with its reason; the reservations are released. -/
def rollbackCore (l : Fin 4) (n : Fin 16) (reason : Reason) (s : State) : State :=
  let s := s.setLaneRec l { s.laneRec l with rollbackReason := some reason }
  reserveBound n false (enterStage l n .rollback none s)

/-- R49: the lane record of an admitted station. -/
def filledLane (n : Fin 16) (st : Stage) (warm : Bool) : Lane :=
  { Lane.fresh with stage := st, station := some n, mode := if warm then .warm else .cold }

/-- R49: the lane takes the station. An ordinary admission opens FREEZE; under an active incident condition it enters
ROLLBACK in the same event instead, and the answer is `true`: the release of its reservations calls a pass (log 10). -/
def startLane (l : Fin 4) (n : Fin 16) (preCaptured : Bool) (s : State) : State × Bool :=
  let warm := ((s.station n).bind (·.checkpoint)).isSome
  if preCaptured then
    (restartEntry l n (s.setLaneRec l (filledLane n .free warm)), false)
  else
    let s := enterStage l n .capture none (s.setLaneRec l (filledLane n .free warm))
    if condition s.inc then ((openDialogue n .thaw [] (rollbackCore l n .incident s)).1, true)
    else ((openDialogue n .freeze [] s).1, false)

/-! ### The tests of an entry (R39, R40) -/

/-- R40: the cover test. -/
def coverHolds (s : State) (n : Fin 16) : Bool :=
  allZones.all fun z =>
    s.cap n z == 0 ||
      decide (1000 * (reservedCapacity s z + s.cap n z) ≤ ((s.zonePlan z).map (·.holdLimit)).getD 0 * s.total z)

/-- Two stations touch a zone in common. -/
def sharesZone (s : State) (m n : Fin 16) : Bool := allZones.any fun z => s.touches m z && s.touches n z

/-- R39, test 3: an entry ranked above is pinned and shares a zone. -/
def pinnedAbove (s : State) (above : List (Fin 16)) (n : Fin 16) : Bool :=
  s.adm.queue.any fun e => e.pinned && decide (e.station ∈ above) && sharesZone s e.station n

/-- R39, test 2: a touched zone has a pending settle-until point. -/
def settling (s : State) (n : Fin 16) : Bool := allZones.any fun z => s.touches n z && (tget s.adm.settle z).isSome

/-- R39: the block reason of the entry's first failing test; none when it is admitted. -/
def entryTest (s : State) (above : List (Fin 16)) (e : QueueEntry) : Option BlockReason :=
  if (s.port e.station).faulted then some .portFault
  else if e.preCaptured then none
  else if settling s e.station then some .settle
  else if pinnedAbove s above e.station then some .pin
  else if coverHolds s e.station then none
  else some .cover

/-! ### Admission and the pass -/

/-- The queue without a station's entry. -/
def withoutEntry (n : Fin 16) (q : List QueueEntry) : List QueueEntry := q.filter fun e => e.station != n

/-- R41: an entry is admitted to a FREE lane. -/
def admitEntry (l : Fin 4) (e : QueueEntry) (s : State) : State × Bool :=
  let s := s.setQueue (withoutEntry e.station s.adm.queue)
  let s := if e.preCaptured then s else reserveBound e.station true s
  let s := s.modStation e.station fun r => { r with state := .active, cls := e.cls, attempts := 0, alignAttempts := 0 }
  startLane l e.station e.preCaptured s

/-- R42: the pass-over count of an entry that failed on cover rises; at the limit it becomes pinned. -/
def passedOver (limit : Nat) (e : QueueEntry) : QueueEntry :=
  let n := satInc 15 e.passOver
  { e with passOver := n, pinned := e.pinned || decide (limit ≤ n) }

/-- R42: every entry of the list is passed over. -/
def countPassOver (failed : List (Fin 16)) (s : State) : State :=
  let limit := (s.adm.params.map (·.passOverLimit)).getD 0
  s.setQueue (s.adm.queue.map fun e => if e.station ∈ failed then passedOver limit e else e)

/-- Records the block reason of an entry (R39). -/
def setBlock (n : Fin 16) (b : BlockReason) (s : State) : State :=
  s.setQueue (s.adm.queue.map fun e => if e.station = n then { e with block := b } else e)

/-- R35: the entries in rank order: class descending, then position. -/
def rankOrder (q : List QueueEntry) : List QueueEntry :=
  ([3, 2, 1, 0] : List (Fin 4)).flatMap fun c => q.filter fun e => e.cls == c

/-- R39 to R42: the pass over the entries in rank order. `above` are the stations ranked above, `failed` those of them
that failed test 4. The count answered is that of admissions that rolled back at once. -/
def passGo : List (Fin 16) → List (Fin 16) → List (Fin 16) → Nat → State → State × Nat
  | [], _, _, k, s => (s, k)
  | n :: rest, above, failed, k, s =>
    match freeLanes s, s.adm.queue.find? (fun e => e.station == n) with
    | [], _ => (s, k)
    | _, none => passGo rest (above ++ [n]) failed k s
    | l :: _, some e =>
      match entryTest s above e with
      | some b =>
        passGo rest (above ++ [n]) (if b = .cover then failed ++ [n] else failed) k (setBlock n b s)
      | none =>
        let r := admitEntry l e s
        passGo rest (above ++ [n]) failed (if r.2 then k + 1 else k) (countPassOver failed r.1)

/-- R37 to R39: one admission pass, whole. -/
def runPass (s : State) : State × Nat :=
  if passGate s then passGo ((rankOrder s.adm.queue).map (·.station)) [] [] 0 s else (s, 0)

/-- Passes one after another; one that rolled back admissions calls as many more (log 10). -/
def runPasses : Nat → Nat → State → State
  | 0, _, s => s
  | _ + 1, 0, s => s
  | f + 1, n + 1, s =>
    let r := runPass s
    runPasses f (n + r.2) r.1

/-- R37: an event calls an admission pass. At most four admissions can roll back, one for each lane, so five passes are
the most. -/
def callPass (s : State) : State := runPasses 5 1 s

/-! ### The end of the campaign (R26) -/

/-- The number of defined stations with a property. -/
def countStations (s : State) (f : StationRec → Bool) : Nat :=
  (allStations.filter fun n => ((s.station n).map f).getD false).length

/-- R26: the campaign-end test. -/
def endTest (s : State) : State :=
  if s.adm.queue = [] ∧ (allLanes.all fun l => (s.laneRec l).stage == .free) ∧
      (s.adm.campaign = .running ∨ s.adm.campaign = .halted ∨ s.adm.campaign = .aborting) then
    (s.setAdm { s.adm with campaign := .ended }).emit .admission
      (.campaign (countStations s fun r => r.state == .done) (countStations s fun r => r.state == .declined)
        (countStations s fun r => r.state == .stranded) (countStations s fun r => r.state == .cancelled)
        (countStations s fun r => r.state == .done && r.releaseUnconfirmed))
  else s

/-! ### Entries -/

/-- A new queue entry (R21, R31, R32). -/
def newEntry (n : Fin 16) (cls : Fin 4) (preCaptured : Bool) : QueueEntry :=
  { station := n, cls := cls, preCaptured := preCaptured, passOver := 0, pinned := false, block := .none }

/-- The position of a station's entry in the queue. -/
def positionOf (s : State) (n : Fin 16) : Option Nat := s.adm.queue.findIdx? fun e => e.station == n

end Sys2Proof.Machine
end

