-- ==== Sys2Proof/Machine/Lanes.lean ====
section
/-! DEFINITION. The Lane Controller (R45 to R75) and the outcomes it reports (R31): what a lane does at a stage entry, at
the end of a dialogue, at a timer, at a ready edge. -/

namespace Sys2Proof.Machine

/-! ### Outcomes (R31) -/

/-- What a lane reports when it has finished with a station. -/
inductive LaneOutcome where
  | acknowledged
  | unconfirmed
  | stranded (r : Reason)
  | rolledBack (r : Reason)
deriving DecidableEq, Repr

/-- R31: the station record after a rollback that counts a capture failure. -/
def captureFailed (aborting : Bool) (limit : Nat) (r : StationRec) : StationRec :=
  let n := satInc 4 r.captureFailures
  { r with captureFailures := n, state := if aborting then .cancelled else if n ≤ limit then .queued else .declined }

/-- R31: the station record after an outcome. -/
def outcomeRecord (aborting : Bool) (limit : Nat) (o : LaneOutcome) (r : StationRec) : StationRec :=
  let r := { r with preCaptured := false }
  match o with
  | .acknowledged => { r with state := .done, checkpoint := none }
  | .unconfirmed => { r with state := .done, checkpoint := none, releaseUnconfirmed := true }
  | .stranded why => { r with state := .stranded, lastReason := some why }
  | .rolledBack why =>
    let r := { r with lastReason := some why, checkpoint := none }
    match why with
    | .incident => { r with state := if aborting then .cancelled else .queued }
    | .aborted => { r with state := .cancelled }
    | _ => captureFailed aborting limit r

/-- R31, R34: a station that is QUEUED again gets a new ordinary entry, at the head after an INCIDENT rollback and at the
tail otherwise. -/
def requeue (n : Fin 16) (o : LaneOutcome) (s : State) : State :=
  match s.station n with
  | some r =>
    if r.state = .queued then
      let e := newEntry n r.cls false
      s.setQueue (if o = .rolledBack .incident then e :: s.adm.queue else s.adm.queue ++ [e])
    else s
  | none => s

/-- R31, R45: the lane is freed and its outcome applied; then the campaign-end test and a pass. -/
def reportOutcome (l : Fin 4) (n : Fin 16) (o : LaneOutcome) (s : State) : State :=
  let s := s.setLaneRec l Lane.fresh
  let s := changeStation n (outcomeRecord (s.adm.campaign == .aborting) (s.retryLimit n) o) s
  callPass (endTest (requeue n o s))

/-- R73: the lane strands its station. -/
def strandLane (l : Fin 4) (n : Fin 16) (why : Reason) (s : State) : State :=
  reportOutcome l n (.stranded why) (takeOverIfExpired n s)

/-! ### Rollback (R53, R54) -/

/-- R54: ROLLBACK ends. -/
def rollbackEnd (l : Fin 4) (n : Fin 16) (s : State) : State :=
  reportOutcome l n (.rolledBack ((s.laneRec l).rollbackReason.getD .incident)) s

/-- R53: the entry into ROLLBACK. The pass its releases call is taken before THAW is opened (log 10). -/
def rollbackEntry (l : Fin 4) (n : Fin 16) (why : Reason) (s : State) : State :=
  let r := openDialogue n .thaw [] (callPass (rollbackCore l n why s))
  if r.2 then rollbackEnd l n r.1 else r.1

/-! ### Align (R63, R64) -/

/-- R64: the station record with one more align attempt. -/
def countAlign (r : StationRec) : StationRec := { r with alignAttempts := satInc 3 r.alignAttempts }

/-- A lane enters ALIGN, unless it stays in it. -/
def toAlign (l : Fin 4) (n : Fin 16) (s : State) : State :=
  if (s.laneRec l).stage = .align then s else enterStage l n .align none s

/-- R63: ALIGN is sent, with what the part drives. -/
def sendAlign (n : Fin 16) (s : State) : State × Bool := openDialogue n .align (channelList s n) s

/-- R64: an align attempt is counted. On a FAULTED port the resends fail at once, so that the count runs up in one event;
the fuel of 3 is the most the count allows. -/
def alignAttempt : Nat → Fin 4 → Fin 16 → State → State
  | 0, l, n, s => strandLane l n .alignFailed s
  | f + 1, l, n, s =>
    let s := s.modStation n countAlign
    if ((s.station n).map (·.alignAttempts)).getD 3 ≤ 2 then
      let r := sendAlign n (toAlign l n s)
      if r.2 then alignAttempt f l n r.1 else r.1
    else strandLane l n .alignFailed s

/-- R63: the entry into ALIGN from PREPARE. -/
def alignEntry (l : Fin 4) (n : Fin 16) (s : State) : State :=
  let r := sendAlign n (enterStage l n .align none s)
  if r.2 then alignAttempt 3 l n r.1 else r.1

/-! ### Prepare (R62) -/

/-- R62: the settled test of a lane in PREPARE. -/
def settledTest (l : Fin 4) (n : Fin 16) (s : State) : State :=
  if (s.laneRec l).stage = .prepare ∧ allSettled s n then alignEntry l n s else s

/-- R62, R78: the changes of an event have been reported; every lane in PREPARE makes its test (log 11). -/
def settleLanes (s : State) : State :=
  allLanes.foldl (fun s l =>
    match (s.laneRec l).station with
    | some n => settledTest l n s
    | none => s) s

/-- R62: the entry into PREPARE. -/
def prepareEntry (l : Fin 4) (n : Fin 16) (s : State) : State :=
  let s := enterStage l n .prepare none s
  settledTest l n ((s.bound n).foldl (fun s c => holdInPlaceOrder c s) s)

/-! ### Restore (R59, R60) -/

/-- R60: a RESTORE that timed out or failed. -/
def restoreFailed (l : Fin 4) (n : Fin 16) (s : State) : State :=
  if ((s.station n).map (·.attempts)).getD 0 ≤ s.retryLimit n then restartEntry l n s
  else strandLane l n .restoreTimeout s

/-- R59: opens a RESTORE dialogue in the lane's mode. -/
def openRestore (l : Fin 4) (n : Fin 16) (s : State) : State :=
  let r := openDialogue n .restore (restoreBody s n (s.laneRec l).mode) s
  if r.2 then restoreFailed l n r.1 else r.1

/-- R59, R66: the entry into RESTORE. -/
def restoreEntry (l : Fin 4) (n : Fin 16) (s : State) : State :=
  openRestore l n (takeOverIfExpired n (enterStage l n .restore none s))

/-! ### Boot (R55 to R57) -/

/-- R55, R56, R61, R66: the entry into BOOT. -/
def bootEntry (l : Fin 4) (n : Fin 16) (s : State) : State :=
  let boot := ((s.stationPlan n).map (·.bootTimeout)).getD 0
  let s := takeOverIfExpired n (enterStage l n .boot (some (s.now + ticksOfSec boot)) s)
  if (s.laneRec l).seenReadyLow ∧ tget s.lane.ready n = true then restoreEntry l n s else s

/-- R55: the restart pulse ends. -/
def pulseEnd (l : Fin 4) (n : Fin 16) (s : State) : State := bootEntry l n (s.setRestartLine n false)

/-- R57: the boot wait has failed. -/
def bootFailed (l : Fin 4) (n : Fin 16) (s : State) : State :=
  if ((s.station n).map (·.attempts)).getD 0 ≤ s.retryLimit n then restartEntry l n s
  else strandLane l n (if (s.laneRec l).seenReadyLow then .bootTimeout else .noRestartSeen) s

/-- R61: a ready fall after boot. -/
def rebooted (l : Fin 4) (n : Fin 16) (s : State) : State :=
  let s := abandonDialogue n s
  let s := s.modStation n (raiseAttempts (s.retryLimit n))
  let s := s.setLaneRec l { s.laneRec l with timer := none, matchCount := 0 }
  if ((s.station n).map (·.attempts)).getD 0 ≤ s.retryLimit n then
    bootEntry l n (s.setLaneRec l { s.laneRec l with seenReadyLow := true })
  else strandLane l n .rebooted s

/-! ### Match and release (R67 to R70) -/

/-- R63: ALIGNED: the entry into MATCH. -/
def matchEntry (l : Fin 4) (n : Fin 16) (s : State) : State :=
  let align := ((s.stationPlan n).map (·.alignTimeout)).getD 0
  enterStage l n .matching (some (s.now + ticksOfSec align))
    (s.setLaneRec l { s.laneRec l with matchCount := 0 })

/-- R70: a RELEASE that timed out or failed; on a FAULTED port the sends still due fail at once. -/
def releaseFailed : Nat → Fin 4 → Fin 16 → State → State
  | 0, l, n, s => reportOutcome l n .unconfirmed s
  | f + 1, l, n, s =>
    if (s.laneRec l).releaseSends < 3 then
      let s := s.setLaneRec l { s.laneRec l with releaseSends := (s.laneRec l).releaseSends + 1 }
      let r := openDialogue n .release [] s
      if r.2 then releaseFailed f l n r.1 else r.1
    else reportOutcome l n .unconfirmed s

/-- R43: the settle-until point of each zone the station touches. -/
def setSettlePoints (n : Fin 16) (s : State) : State :=
  s.setAdm { s.adm with
    settle := tmap (fun z old =>
      if s.touches n z then
        match s.zonePlan z with
        | some p => if p.settleTime = 0 then old else some (s.now + ticksOfSec p.settleTime)
        | none => old
      else old) s.adm.settle }

/-- R69: the entry into RELEASE. The pass its releases call is taken after all five changes, before a dialogue that failed at
once on a FAULTED port is handled (log 10). -/
def releaseEntry (l : Fin 4) (n : Fin 16) (s : State) : State :=
  let s := enterStage l n .release none s
  let s := (s.bound n).foldl (fun s c => followOrder c s) s
  let s := setSettlePoints n (reserveBound n false s)
  let s := s.setGrace n .notStarted
  let r := openDialogue n .release [] (s.setLaneRec l { s.laneRec l with releaseSends := 1 })
  let s := callPass r.1
  if r.2 then releaseFailed 3 l n s else s

/-- R67: a channel agrees in MATCH. -/
def matches_ (s : State) (tolerance : Nat) (c : Fin 32) : Bool :=
  decide (dist (s.channel c).observedLevel (s.channel c).level ≤ tolerance) &&
    (!s.isVent c || (s.channel c).observedSense == (s.channel c).sense)

/-- R67: the match test of a lane in MATCH at a completed measurement. -/
def matchTest (l : Fin 4) (n : Fin 16) (s : State) : State :=
  if (s.laneRec l).stage = .matching then
    let tolerance := ((s.stationPlan n).map (·.handbackTolerance)).getD 0
    if (s.bound n).all (matches_ s tolerance) then
      let s := s.setLaneRec l { s.laneRec l with matchCount := satInc 3 (s.laneRec l).matchCount }
      if (s.laneRec l).matchCount = 3 then releaseEntry l n s else s
    else s.setLaneRec l { s.laneRec l with matchCount := 0 }
  else s

/-- R79: the completion of a measurement is handed to the lanes that stand in MATCH at it. -/
def matchLanes (s : State) : State :=
  (allLanes.filter fun l => (s.laneRec l).stage == .matching).foldl (fun s l =>
    match (s.laneRec l).station with
    | some n => matchTest l n s
    | none => s) s

/-- R68: the align timer expires in MATCH. -/
def alignExpired (l : Fin 4) (n : Fin 16) (s : State) : State :=
  alignAttempt 3 l n (s.setLaneRec l { s.laneRec l with matchCount := 0, timer := none })

/-! ### Capture (R50 to R52) -/

/-- R51: the tests of a FROZEN as a whole. -/
def wellFormedFrozen (f : Frozen) (boundCount : Nat) : Bool :=
  decide (f.entries.length = boundCount) && (f.entries.all fun e => decide (e.1 ≤ 1000) && decide (e.2 ≤ 1)) &&
    decide (f.checkpoint.length ≤ 192)

/-- R52: an entry agrees with the latest measurement of its channel. -/
def entryAgrees (s : State) (tolerance : Nat) (c : Fin 32) (e : Nat × Nat) : Bool :=
  decide (dist e.1 (s.channel c).observedLevel ≤ tolerance) &&
    (!s.isVent c || e.2 == (senseCode (s.channel c).observedSense).toNat)

/-- R52: every entry agrees, in channel order. -/
def frozenAgrees (s : State) (n : Fin 16) (f : Frozen) : Bool :=
  let tolerance := ((s.stationPlan n).map (·.captureTolerance)).getD 0
  ((s.bound n).zip f.entries).all fun p => entryAgrees s tolerance p.1 p.2

/-- R48: a hold-grace timer that starts; a grace of 0 s expires in the same event. -/
def startGrace (now grace : Nat) : Grace := if grace = 0 then .expired else .running (now + ticksOfSec grace)

/-- R52: the capture passes. -/
def capturePass (l : Fin 4) (n : Fin 16) (f : Frozen) (s : State) : State :=
  let s := (s.bound n).foldl (fun s c => captureOrder c s) s
  let s := if condition s.inc then (s.bound n).foldl (fun s c => incidentOrder c s) s else s
  let s := s.modStation n fun r => { r with checkpoint := some { modeByte := f.modeByte, bytes := f.checkpoint } }
  let s := s.setGrace n (startGrace s.now (((s.stationPlan n).map (·.holdGrace)).getD 0))
  restartEntry l n s

/-- R50 to R52: the lane examines a FROZEN body. -/
def frozenTaken (l : Fin 4) (n : Fin 16) (body : List Byte) (s : State) : State :=
  match frozenOf body with
  | some f =>
    if wellFormedFrozen f (s.bound n).length then
      if frozenAgrees s n f then capturePass l n f s else rollbackEntry l n .captureMismatch s
    else rollbackEntry l n .protocol s
  | none => rollbackEntry l n .protocol s

/-! ### The end of a dialogue (R146) -/

/-- How a dialogue ended: R146's REPLY, MALFORMED, and TIMEOUT or FAILED, which every lane treats alike. -/
inductive DialogueEnd where
  | reply (k : ReplyKind) (body : List Byte)
  | malformed
  | failed
deriving DecidableEq, Repr

/-- R50, R54, R60, R63, R70: the lane handles the end of its dialogue. -/
def laneHandles (l : Fin 4) (n : Fin 16) (d : DialogueKind) (e : DialogueEnd) (s : State) : State :=
  match d with
  | .freeze =>
    match e with
    | .reply .frozen body => frozenTaken l n body s
    | .reply _ _ => rollbackEntry l n .freezeRefused s
    | .malformed => rollbackEntry l n .protocol s
    | .failed => rollbackEntry l n .noFreeze s
  | .thaw => rollbackEnd l n s
  | .restore =>
    match e with
    | .reply .restored _ => prepareEntry l n s
    | .reply _ _ =>
      if (s.laneRec l).mode = .warm then openRestore l n (s.setLaneRec l { s.laneRec l with mode := .cold })
      else strandLane l n .restoreRejected s
    | _ => restoreFailed l n s
  | .align =>
    match e with
    | .reply .aligned _ => matchEntry l n s
    | _ => alignAttempt 3 l n s
  | .release =>
    match e with
    | .reply _ _ => reportOutcome l n .acknowledged s
    | _ => releaseFailed 3 l n s

/-- R146: the outcome is handed to the lane that holds the port's station. -/
def handEnd (n : Fin 16) (d : DialogueKind) (e : DialogueEnd) (s : State) : State :=
  match s.laneOf n with
  | some l => laneHandles l n d e s
  | none => s

/-! ### Frames from a station (R143, R144, R149) -/

/-- R143, R144, R75: a bad frame, taken or abandoned. -/
def badFrame (n : Fin 16) (s : State) : State :=
  let p := countBad (s.port n)
  if p.faulted = false ∧ p.consecutive = 8 then
    let q := faultPort p
    let s := (s.setPort n q).emit .ports (portNotice n q)
    match p.dialogue with
    | some d => handEnd n d.kind .failed s
    | none => s
  else s.setPort n p

/-- R149: a good frame is matched. -/
def matchFrame (n : Fin 16) (f : FieldFrame) (s : State) : State :=
  let own := decide (f.station.toNat = n.val)
  let kind := replyKindOf f.kind
  match own, (s.port n).dialogue, kind with
  | true, some d, some k =>
    if expects d.kind k then
      handEnd n d.kind (if bodyAdmitted k f.body then .reply k f.body else .malformed) (endByReply n s)
    else s.setPort n (countStray own kind (s.port n))
  | _, _, _ => s.setPort n (countStray own kind (s.port n))

/-- R141, R143, R149: a frame is taken; a port without a rate receives nothing (R137). -/
def frameTaken (n : Fin 16) (f : FieldFrame) (s : State) : State :=
  if (s.port n).rate.isNone then s
  else
    let s := s.setPort n { s.port n with rx := none }
    if fieldFrameGood f && decide (f.body.length ≤ 250) then
      matchFrame n f (s.setPort n { s.port n with consecutive := 0 })
    else badFrame n s

/-- R141, R143: a frame is abandoned. -/
def frameAbandoned (n : Fin 16) (s : State) : State :=
  if (s.port n).rate.isNone then s else badFrame n (s.setPort n { s.port n with rx := none })

/-- R140, R141: a frame taken whole: the errors of its characters are counted, and it is taken (log 6). -/
def wholeFrame (n : Fin 16) (f : FieldFrame) (s : State) : State :=
  if (s.port n).rate.isNone then s else frameTaken n f (s.setPort n (countFrameErrors f (s.port n)))

/-- R141: a character that ends a gap of more than 20 ms finds the frame before it abandoned. -/
def endGap (n : Fin 16) (s : State) : State :=
  match (s.port n).rx with
  | some p => if gapExceeded s.now (charTicks ((s.port n).divisor.getD 0) 1) p.gapFrom then frameAbandoned n s else s
  | none => s

/-- R138, R140, R141: a character arrives on a port. -/
def characterReceived (n : Fin 16) (c : RxChar) (s : State) : State :=
  if (s.port n).rate.isNone then s
  else
    let s := endGap n s
    let s := s.setPort n (countErrors c (s.port n))
    match feedField s.now (s.port n).rx c with
    | .hunt => s.setPort n { s.port n with rx := none }
    | .part p => s.setPort n { s.port n with rx := some p }
    | .taken f => frameTaken n f s
    | .abandoned => frameAbandoned n s

/-- R147: the last character of the frame being sent has been sent. -/
def frameSentOn (n : Fin 16) (s : State) : State :=
  match (s.port n).sending with
  | some x =>
    let s := reach x.doneAt s
    s.setPort n (frameSent s.now (dialogueTicks s n) (s.port n))
  | none => s

/-- R150: the dialogue timer expires; it runs only while the message is SENT. -/
def dialogueExpired (n : Fin 16) (s : State) : State :=
  match (s.port n).dialogue with
  | some d =>
    match d.timer with
    | some t => handEnd n d.kind .failed (endByTimeout n d.kind (reach t s))
    | none => s
  | none => s

/-! ### Ready edges (R47, R56, R61) -/

/-- R47: the deglitched ready state takes the level the line has held. -/
def setReady (n : Fin 16) (v : Bool) (s : State) : State :=
  (s.setPins { s.pins with ready := tset s.pins.ready n v }).setLane { s.lane with
    ready := tset s.lane.ready n v
    readyCount := tset s.lane.readyCount n 0 }

/-- R56: a ready rise reaches the lane. -/
def laneRise (l : Fin 4) (n : Fin 16) (s : State) : State :=
  if (s.laneRec l).stage = .boot ∧ (s.laneRec l).seenReadyLow = true then restoreEntry l n s else s

/-- R55, R56, R61: a ready fall reaches the lane. -/
def laneFall (l : Fin 4) (n : Fin 16) (s : State) : State :=
  match (s.laneRec l).stage with
  | .restart | .boot => s.setLaneRec l { s.laneRec l with seenReadyLow := true }
  | .restore | .prepare | .align | .matching => rebooted l n s
  | _ => s

/-- A ready rise (R47, R56). -/
def readyRises (n : Fin 16) (s : State) : State :=
  if tget s.lane.ready n = true then s
  else
    let s := setReady n true s
    match s.laneOf n with
    | some l => laneRise l n s
    | none => s

/-- A ready fall (R47, R61). -/
def readyFalls (n : Fin 16) (s : State) : State :=
  if tget s.lane.ready n = false then s
  else
    let s := setReady n false s
    match s.laneOf n with
    | some l => laneFall l n s
    | none => s

/-! ### Timers of the lanes and stations -/

/-- A lane's stage timer expires in a given stage; in any other stage it is stopped and nothing happens (R45). -/
def stageTimer (l : Fin 4) (st : Stage) (f : Fin 4 → Fin 16 → State → State) (s : State) : State :=
  match (s.laneRec l).station with
  | some n => if (s.laneRec l).stage = st then f l n (reachTimer (s.laneRec l).timer s) else s
  | none => s

/-- R65: the switch is made in these stages. -/
def graceStage (st : Option Stage) : Bool :=
  match st with
  | some .restart | some .boot | some .restore => true
  | _ => false

/-- R48, R65: a RUNNING hold-grace timer expires. -/
def graceExpired (n : Fin 16) (s : State) : State :=
  match s.grace n with
  | .running t =>
    let s := (reach t s).setGrace n .expired
    if graceStage (s.stageOf n) || s.stationState n == some .stranded then takeOverStation n s else s
  | _ => s

end Sys2Proof.Machine
end

