-- ==== Sys2Proof/Machine/Plan.lean ====
section
/-! DEFINITION. The Plan Store's requests (R1 to R18): the writes of the four tables, PLAN_CLEAR, PLAN_CHECK with its
derived values, READ_PLAN. -/

namespace Sys2Proof.Machine

/-- What a request answers: the state after it, the status and the items of its reply (R177). -/
abbrev Answer := State × Status × Items

/-- A refused request changes no state in any block (R177). -/
def refuse (st : Status) (s : State) : Answer := (s, st, .none)

/-- R176, step 2: a body that is not of a length the kind admits. -/
def withFields {α : Type} (fields : Option α) (f : α → State → Answer) (s : State) : Answer :=
  match fields with
  | some a => f a s
  | none => refuse .badLength s

/-- A field that lies outside its range or list. -/
def withField {α : Type} (field : Option α) (f : α → State → Answer) (s : State) : Answer :=
  match field with
  | some a => f a s
  | none => refuse .badField s

/-- R3, R4, step 1. -/
def withGate (f : State → Answer) (s : State) : Answer := if planGate s then f s else refuse .wrongState s

/-! ### Writes -/

/-- R2, R4: an accepted write: the tables as written, the plan state DRAFT, the derived values discarded. A plan that
leaves READY clears the blind flags (R111, R120). -/
def storePlan (p : PlanStore) (s : State) : State :=
  let s' := s.setPlan { p with state := .draft, derived := none }
  if s.plan.state = .ready then clearAllBlind s' else s'

/-- R4, step 4, and R5: the station record as stored. -/
def clampStation (r : StationPlan) : StationPlan :=
  { bitRate := r.bitRate
    restartPulse := clamp 100 2000 r.restartPulse
    bootTimeout := clamp 5 900 r.bootTimeout
    dialogueTimeout := clamp 100 5000 r.dialogueTimeout
    alignTimeout := clamp 1 60 r.alignTimeout
    captureTolerance := clamp 0 100 r.captureTolerance
    handbackTolerance := clamp 0 50 r.handbackTolerance
    holdGrace := clamp 0 600 r.holdGrace
    retryLimit := clamp 0 3 r.retryLimit }

/-- R5, R138: the port takes the stored rate; a frame part-way through reception is dropped. -/
def ratePort (rate : Nat) (p : Port) : Port :=
  { p with rate := some rate, divisor := some (divisorOf rate), rx := none }

/-- R5: the effects of an accepted station record. -/
def storeStation (n : Fin 16) (r : StationPlan) (s : State) : State :=
  let s := storePlan { s.plan with stations := tset s.plan.stations n (some r) } s
  let s := s.setPort n (ratePort r.bitRate (s.port n))
  if (s.station n).isNone then s.setStation n (some StationRec.fresh) else s

/-- PLAN_STATION on the fields of its body (R4, R5). -/
def planStationTaken (f : Nat × StationPlan) : State → Answer :=
  withGate <| withField (numberOf 16 f.1) fun n s =>
    let r := clampStation f.2
    if rateAccepted r.bitRate then (storeStation n r s, .ok, .station n r) else refuse .rateError s

/-- R8: the parameters of a law as stored, tested on the clamped values; none is BAD_FIELD. -/
def lawStored (f : ZoneFields) : Option Law :=
  match f.law with
  | 0 => some .none
  | 1 => (numberOf 8 f.luminance).map fun i => .light i (clamp 1 1000 f.k) (clamp 1 2000 f.lfull)
  | 2 =>
    match inputOrNoneOf f.co, inputOrNoneOf f.ext with
    | some co, some ext =>
      let cl := if co.isSome then clamp 0 500 f.coLow else 0
      let ch := if co.isSome then clamp 0 500 f.coHigh else 0
      let el := if ext.isSome then clamp 0 20000 f.extLow else 0
      let eh := if ext.isSome then clamp 0 20000 f.extHigh else 0
      if (co.isSome ∨ ext.isSome) ∧ (co.isSome → cl < ch) ∧ (ext.isSome → el < eh) then
        some (.vent co cl ch ext el eh)
      else none
    | _, _ => none
  | _ => none

/-- R7: the law agrees with the kind. -/
def lawFits (k : ZoneKind) (l : Law) : Bool :=
  match l, k with
  | .none, _ => true
  | .light _ _ _, .light => true
  | .vent _ _ _ _ _ _, .vent => true
  | _, _ => false

/-- R4, steps 3 to 5, and R7, R8: the zone record as stored; none is BAD_FIELD. -/
def zoneStored (f : ZoneFields) : Option ZonePlan :=
  match zoneKindOf f.kind, lawStored f with
  | some k, some l =>
    if lawFits k l then
      some { kind := k
             holdLimit := clamp 0 1000 f.holdLimit
             settleTime := clamp 0 3600 f.settleTime
             dwell := if k = .light then 0 else clamp 0 120 f.dwell
             deadBand := clamp 0 100 f.deadBand
             baseLevel := clamp 0 1000 f.baseLevel
             blindLevel := clamp 0 1000 f.blindLevel
             law := l }
    else none
  | _, _ => none

/-- R7, step 6 of R4: a defined channel that names the zone carries FORWARD or REVERSE. -/
def sensesInZone (s : State) (z : Fin 12) : Bool :=
  allChannels.any fun c =>
    match s.channelPlan c with
    | some p => decide (p.zone = z) && p.incidentSense != .keep
    | none => false

/-- The effects of an accepted zone record. -/
def storeZone (z : Fin 12) (r : ZonePlan) (s : State) : State :=
  storePlan { s.plan with zones := tset s.plan.zones z (some r) } s

/-- PLAN_ZONE on the fields of its body (R4, R7, R8). -/
def planZoneTaken (f : ZoneFields) : State → Answer :=
  withGate <| withField (numberOf 12 f.zone) fun z => withField (zoneStored f) fun r s =>
    if r.kind = .light ∧ sensesInZone s z = true then refuse .badField s else (storeZone z r s, .ok, .zone z r)

/-- R4, steps 3 to 5, and R9: the channel record as stored; none is BAD_FIELD. -/
def channelStored (f : ChannelFields) : Option ChannelPlan :=
  match numberOf 16 f.owner, numberOf 12 f.zone, incidentSenseOf f.incidentSense, thresholdOf f.threshold,
    deglitchOf f.deglitch, switchOf f.openDetect with
  | some o, some z, some i, some t, some d, some od =>
    let lo := clamp 0 1000 f.minLevel
    let hi := clamp 0 1000 f.maxLevel
    if lo ≤ hi then
      some { owner := o, zone := z, capacity := clamp 1 1000 f.capacity, minLevel := lo, maxLevel := hi,
             rampUp := clamp 1 1000 f.rampUp, rampDown := clamp 1 1000 f.rampDown,
             incidentLevel := clamp 0 1000 f.incidentLevel, incidentSense := i,
             incidentRamp := clamp 1 1000 f.incidentRamp, threshold := t, deglitch := d, openDetect := od }
    else none
  | _, _, _, _, _, _ => none

/-- R10: the zone slot is defined with kind LIGHT. -/
def zoneIsLight (s : State) (z : Fin 12) : Bool := (s.zonePlan z).any fun p => decide (p.kind = .light)

/-- The effects of an accepted channel record: the detectors start afresh under it (R9, R92). -/
def storeChannel (c : Fin 32) (r : ChannelPlan) (s : State) : State :=
  restartDetectors c r.openDetect (storePlan { s.plan with channels := tset s.plan.channels c (some r) } s)

/-- PLAN_CHANNEL on the fields of its body (R4, R9, R10). -/
def planChannelTaken (f : ChannelFields) : State → Answer :=
  withGate <| withField (numberOf 32 f.channel) fun c => withField (channelStored f) fun r s =>
    if zoneIsLight s r.zone = true ∧ r.incidentSense ≠ .keep then refuse .badField s
    else (storeChannel c r s, .ok, .channel c r)

/-- R11: the top of the value range of a kind. -/
def valueTop : SensorKind → Nat
  | .co => 500
  | _ => 20000

/-- R4, steps 3 to 5, and R11: the sensor record as stored; none is BAD_FIELD. -/
def sensorStored (f : SensorFields) : Option SensorPlan :=
  match sensorKindOf f.kind with
  | none => none
  | some .unused =>
    some { kind := .unused, rawBroken := 0, rawLo := 0, rawHi := 0, valueLo := 0, valueHi := 0, shift := 0 }
  | some k =>
    let rb := clamp 0 4095 f.rawBroken
    let rl := clamp 0 4095 f.rawLo
    let rh := clamp 0 4095 f.rawHi
    let vl := clamp 0 (valueTop k) f.valueLo
    let vh := clamp 0 (valueTop k) f.valueHi
    if rb < rl ∧ rl < rh ∧ vl < vh then
      some { kind := k, rawBroken := rb, rawLo := rl, rawHi := rh, valueLo := vl, valueHi := vh,
             shift := clamp 0 4 f.shift }
    else none

/-- R12: the input starts afresh, and a conversion of it in progress is discarded. -/
def restartInput (i : Fin 8) (s : State) : State :=
  let s := s.setInput i InputRec.fresh
  if s.scan.scanning = true ∧ s.scan.index = i then s.setScan { s.scan with discard := true } else s

/-- The effects of an accepted sensor record. -/
def storeSensor (i : Fin 8) (r : SensorPlan) (s : State) : State :=
  restartInput i (storePlan { s.plan with sensors := tset s.plan.sensors i (some r) } s)

/-- PLAN_SENSOR on the fields of its body (R4, R11, R12). -/
def planSensorTaken (f : SensorFields) : State → Answer :=
  withGate <| withField (numberOf 8 f.input) fun i => withField (sensorStored f) fun r s =>
    (storeSensor i r s, .ok, .sensor i r)

/-! ### PLAN_CLEAR (R13) -/

/-- R13: a port is left with no rate; the frame being sent is completed, nothing after it. -/
def unratePort (p : Port) : Port := { p with rate := none, divisor := none, rx := none, waiting := none }

/-- An empty Plan Store. -/
def PlanStore.fresh : PlanStore :=
  { state := .empty, stations := tfill 16 none, zones := tfill 12 none, channels := tfill 32 none,
    sensors := tfill 8 none, derived := none }

/-- R13: every input starts afresh. -/
def clearInputs (s : State) : State :=
  s.setScan { s.scan with
    inputs := tfill 8 InputRec.fresh, discard := s.scan.discard || s.scan.scanning }

/-- R13, R111: the effects of an accepted PLAN_CLEAR. -/
def clearPlan (s : State) : State :=
  let s' := s.setPlan PlanStore.fresh
  let s' := if s.plan.state = .ready then clearAllBlind s' else s'
  let s' := s'.setAdm { s'.adm with stations := tfill 16 none }
  let s' := s'.setPorts (tmap (fun _ p => unratePort p) s'.ports)
  stopDetectors (clearInputs s')

/-- PLAN_CLEAR (R13). -/
def planClearTaken (_ : Unit) : State → Answer := withGate fun s => (clearPlan s, .ok, .none)

/-! ### PLAN_CHECK (R15 to R18) -/

/-- R6: the defined channels whose owner is the station, ascending. -/
def boundOf (p : PlanStore) (n : Fin 16) : List (Fin 32) :=
  allChannels.filter fun c => (tget p.channels c).any fun r => decide (r.owner = n)

/-- The capacity points of a defined channel. -/
def pointsOf (p : PlanStore) (c : Fin 32) : Nat := ((tget p.channels c).map (·.capacity)).getD 0

/-- The defined channels of a zone. -/
def zoneChannels (p : PlanStore) (z : Fin 12) : List (Fin 32) :=
  allChannels.filter fun c => (tget p.channels c).any fun r => decide (r.zone = z)

/-- R17, R18: total(z). -/
def totalOf (p : PlanStore) (z : Fin 12) : Nat := ((zoneChannels p z).map (pointsOf p)).sum

/-- R17, R18: cap(s, z). -/
def capOf (p : PlanStore) (n : Fin 16) (z : Fin 12) : Nat :=
  (((boundOf p n).filter fun c => decide (c ∈ zoneChannels p z)).map (pointsOf p)).sum

/-- R16: an input of a kind is defined. -/
def inputHas (p : PlanStore) (k : SensorKind) (i : Fin 8) : Bool :=
  (tget p.sensors i).any fun r => decide (r.kind = k)

/-- R16, check 1. -/
def checkBound (p : PlanStore) (n : Fin 16) : Bool :=
  (tget p.stations n).isNone || (decide (1 ≤ (boundOf p n).length) && decide ((boundOf p n).length ≤ 8))

/-- R16, check 2. -/
def checkLaw (p : PlanStore) (z : Fin 12) : Bool :=
  match tget p.zones z with
  | none => true
  | some r =>
    match r.law with
    | .none => true
    | .light i _ _ => inputHas p .luminance i
    | .vent co _ _ ext _ _ => co.all (inputHas p .co) && ext.all (inputHas p .extinction)

/-- R16, check 3. -/
def checkChannel (p : PlanStore) (c : Fin 32) : Bool :=
  match tget p.channels c with
  | none => true
  | some r => (tget p.stations r.owner).isSome && (tget p.zones r.zone).isSome

/-- R17, check 4. -/
def checkRestartable (p : PlanStore) (n : Fin 16) : Bool :=
  (tget p.stations n).isNone ||
    allZones.all fun z =>
      capOf p n z == 0 ||
        decide (1000 * capOf p n z ≤ ((tget p.zones z).map (·.holdLimit)).getD 0 * totalOf p z)

/-- R15: the first failing check with the index of its first failing slot. -/
def firstFailure (p : PlanStore) : Option (Nat × Nat) :=
  match allStations.find? fun n => !checkBound p n with
  | some n => some (1, n.val)
  | none =>
    match allZones.find? fun z => !checkLaw p z with
    | some z => some (2, z.val)
    | none =>
      match allChannels.find? fun c => !checkChannel p c with
      | some c => some (3, c.val)
      | none => (allStations.find? fun n => !checkRestartable p n).map fun n => (4, n.val)

/-- R18: the derived values. -/
def derive_ (p : PlanStore) : Derived :=
  { bound := tmake fun n => if (tget p.stations n).isSome then boundOf p n else []
    total := tmake (totalOf p)
    count := tmake fun z => (zoneChannels p z).length
    cap := tmake fun n => tmake fun z => if (tget p.stations n).isSome then capOf p n z else 0
    kind := tmake fun c => (tget p.channels c).bind fun r => (tget p.zones r.zone).map (·.kind) }

/-- R15: a plan that passes becomes READY; a plan that was DRAFT forms its blind flags (R111). -/
def readyPlan (s : State) : State :=
  let s' := s.setPlan { s.plan with state := .ready, derived := some (derive_ s.plan) }
  if s.plan.state = .ready then s' else formAllBlind s'

/-- PLAN_CHECK (R15). -/
def planCheckTaken (_ : Unit) : State → Answer :=
  withGate fun s =>
    if s.plan.state = .empty then refuse .wrongState s
    else
      match firstFailure s.plan with
      | some f => (s.setPlan { s.plan with derived := none }, .planInvalid, .check f.1 f.2)
      | none => (readyPlan s, .ok, .none)

/-! ### READ_PLAN (R14) -/

/-- A read of a slot that must be defined. -/
def withSlot {α : Type} (slot : Option α) (f : α → State → Answer) (s : State) : Answer :=
  match slot with
  | some a => f a s
  | none => refuse .notDefined s

/-- READ_PLAN: table and slot (R14). -/
def readPlanTaken (f : Nat × Nat) (s : State) : Answer :=
  match f.1 with
  | 0 => withField (numberOf 16 f.2) (fun n s => withSlot (s.stationPlan n) (fun r s =>
      (s, .ok, .readStationPlan n r (s.plan.derived.map fun d => tget d.bound n))) s) s
  | 1 => withField (numberOf 12 f.2) (fun n s => withSlot (s.zonePlan n) (fun r s =>
      (s, .ok, .readZonePlan n r (s.plan.derived.map fun d => (tget d.total n, tget d.count n)))) s) s
  | 2 => withField (numberOf 32 f.2) (fun n s => withSlot (s.channelPlan n) (fun r s =>
      (s, .ok, .readChannelPlan n r (s.kind n))) s) s
  | 3 => withField (numberOf 8 f.2) (fun n s => withSlot (s.sensorPlan n) (fun r s =>
      (s, .ok, .readSensorPlan n r)) s) s
  | _ => refuse .badField s

end Sys2Proof.Machine
end

