-- ==== Sys2Proof/Machine/Campaign.lean ====
section
/-! DEFINITION. The Admission Unit's requests (R19 to R33) and the expiry of a settle-until point (R43). -/

namespace Sys2Proof.Machine

/-- The campaign is RUNNING or HALTED. -/
def campaignOpen (s : State) : Bool := s.adm.campaign == .running || s.adm.campaign == .halted

/-- R184: campaign state and parameters as they stand after the request. -/
def campaignItems (s : State) : Items := .campaign s.adm.campaign s.adm.params none

/-- R184: campaign state, parameters and queue length. -/
def campaignQueueItems (s : State) : Items := .campaign s.adm.campaign s.adm.params (some s.adm.queue.length)

def State.setCampaign (s : State) (c : CampaignState) : State := s.setAdm { s.adm with campaign := c }

/-- R34: a station has an entry in the queue. -/
def hasEntry (s : State) (n : Fin 16) : Bool := s.adm.queue.any fun e => decide (e.station = n)

/-! ### Entries of CAMPAIGN_OPEN and CAMPAIGN_ADD -/

/-- R20, step 6, and R22: the state test of an entry. -/
def entryState (add : Bool) (s : State) (n : Fin 16) (r : StationRec) : Option Status :=
  if add = true ∧ (hasEntry s n = true ∨ r.state = .active) then some .duplicate
  else if r.state = .idle ∨ r.state = .stranded then none
  else some .wrongState

/-- R20, step 6, and R22: the entries in list order: the entries as read, or the status and the position of the first
that fails. -/
def testEntries (add : Bool) (s : State) :
    List (Nat × Nat) → List (Fin 16 × Fin 4) → Except (Status × Nat) (List (Fin 16 × Fin 4))
  | [], done => .ok done
  | e :: rest, done =>
    match numberOf 16 e.1, numberOf 4 e.2 with
    | some n, some cls =>
      match s.station n with
      | none => .error (.notDefined, done.length)
      | some r =>
        if done.any fun d => decide (d.1 = n) then .error (.duplicate, done.length)
        else
          match entryState add s n r with
          | some st => .error (st, done.length)
          | none => testEntries add s rest (done ++ [(n, cls)])
    | _, _ => .error (.badField, done.length)

/-- R21, R22: the station record of a listed station. -/
def listed (opens : Bool) (r : StationRec) : StationRec :=
  { r with
    state := if r.state = .stranded then .stranded else .queued
    captureFailures := if opens then 0 else r.captureFailures
    lastReason := none
    releaseUnconfirmed := false
    preCaptured := r.preCaptured || decide (r.state = .stranded) }

/-- R21, R22: one entry joins at the tail; an IDLE station becomes QUEUED with its notice, a STRANDED one stays. -/
def joinEntry (opens : Bool) (s : State) (e : Fin 16 × Fin 4) : State :=
  let pre := decide (s.stationState e.1 = some .stranded)
  let s := s.setQueue (s.adm.queue ++ [newEntry e.1 e.2 pre])
  if pre then s.modStation e.1 (listed opens) else changeStation e.1 (listed opens) s

/-- R20, steps 3 and 5: the parameters as stored; none is BAD_FIELD. -/
def paramsStored (p : CampaignParams) : Option CampaignParams :=
  if p.windowStart < 86400 ∧ p.windowEnd < 86400 then
    some { p with lanesInUse := clamp 1 4 p.lanesInUse, passOverLimit := clamp 1 15 p.passOverLimit }
  else none

/-- R20, step 4: the entry count. -/
def countAdmitted (es : List (Nat × Nat)) : Bool := decide (1 ≤ es.length) && decide (es.length ≤ 16)

/-- R21: the effects of an accepted CAMPAIGN_OPEN before its pass. -/
def openCampaign (p : CampaignParams) (es : List (Fin 16 × Fin 4)) (s : State) : State :=
  es.foldl (joinEntry true) (s.setAdm { s.adm with campaign := .running, params := some p })

/-- CAMPAIGN_OPEN (R20, R21). -/
def campaignOpenTaken (f : CampaignParams × List (Nat × Nat)) (s : State) : Answer :=
  if s.adm.campaign ≠ .idle ∨ s.plan.state ≠ .ready then refuse .wrongState s
  else
    match paramsStored f.1 with
    | none => refuse .badField s
    | some p =>
      if countAdmitted f.2 = false then refuse .badField s
      else
        match testEntries false s f.2 [] with
        | .error e => (s, e.1, .position e.2)
        | .ok es =>
          let s := callPass (openCampaign p es s)
          (s, .ok, campaignItems s)

/-- CAMPAIGN_ADD (R22). -/
def campaignAddTaken (f : List (Nat × Nat)) (s : State) : Answer :=
  if campaignOpen s = false then refuse .wrongState s
  else if countAdmitted f = false then refuse .badField s
  else
    match testEntries true s f [] with
    | .error e => (s, e.1, .position e.2)
    | .ok es =>
      if 16 < s.adm.queue.length + es.length then refuse .queueFull s
      else
        let s := callPass (es.foldl (joinEntry false) s)
        (s, .ok, campaignQueueItems s)

/-! ### One station -/

/-- R19: the station number and its slot are tested before the state. -/
def withStation (n : Nat) (f : Fin 16 → StationRec → State → Answer) : State → Answer :=
  withField (numberOf 16 n) fun n s => withSlot (s.station n) (f n) s

/-- R23, R25: an entry is removed without admission: an ordinary entry's station becomes CANCELLED, a pre-captured
entry's station stays STRANDED and loses its flag. -/
def dropEntry (e : QueueEntry) (s : State) : State :=
  let s := s.setQueue (withoutEntry e.station s.adm.queue)
  if e.preCaptured then s.modStation e.station fun r => { r with preCaptured := false }
  else changeStation e.station (fun r => { r with state := .cancelled }) s

/-- CAMPAIGN_CANCEL (R23). -/
def campaignCancelTaken (n : Nat) : State → Answer :=
  withStation n fun n _ s =>
    match campaignOpen s, s.adm.queue.find? fun e => decide (e.station = n) with
    | true, some e =>
      let s := endTest (callPass (dropEntry e s))
      (s, .ok, campaignQueueItems s)
    | _, _ => refuse .wrongState s

/-- CAMPAIGN_HALT (R24). -/
def campaignHaltTaken (_ : Unit) (s : State) : Answer :=
  if s.adm.campaign = .running then
    let s := s.setCampaign .halted
    (s, .ok, campaignItems s)
  else refuse .wrongState s

/-- CAMPAIGN_RESUME (R24). -/
def campaignResumeTaken (_ : Unit) (s : State) : Answer :=
  if s.adm.campaign = .halted then
    let s := callPass (s.setCampaign .running)
    (s, .ok, campaignItems s)
  else refuse .wrongState s

/-- R25, R71: a lane in CAPTURE goes to ROLLBACK with a reason, its dialogue abandoned. -/
def abandonCapture (why : Reason) (s : State) (l : Fin 4) : State :=
  match (s.laneRec l).station with
  | some n => if (s.laneRec l).stage = .capture then rollbackEntry l n why (abandonDialogue n s) else s
  | none => s

/-- R25: the effects of an accepted CAMPAIGN_ABORT. -/
def abortCampaign (s : State) : State :=
  let s' := s.setCampaign .aborting
  let s' := s.adm.queue.foldl (fun s e => dropEntry e s) s'
  endTest (allLanes.foldl (abandonCapture .aborted) s')

/-- CAMPAIGN_ABORT (R25). -/
def campaignAbortTaken (_ : Unit) (s : State) : Answer :=
  if campaignOpen s then
    let s := abortCampaign s
    (s, .ok, campaignItems s)
  else refuse .wrongState s

/-- R27: a station of the closed campaign. -/
def closeStation (s : State) (n : Fin 16) : State :=
  if s.stationState n = some .done ∨ s.stationState n = some .declined ∨ s.stationState n = some .cancelled then
    changeStation n (fun r => { r with state := .idle }) s
  else s

/-- R27: the effects of an accepted CAMPAIGN_CLOSE. -/
def closeCampaign (s : State) : State :=
  let s := allStations.foldl closeStation s
  s.setAdm { s.adm with campaign := .idle, params := none }

/-- CAMPAIGN_CLOSE (R27). -/
def campaignCloseTaken (_ : Unit) (s : State) : Answer :=
  if s.adm.campaign = .ended then
    let s := closeCampaign s
    (s, .ok, .campaignState s.adm.campaign)
  else refuse .wrongState s

/-- The station's state as a reply carries it. -/
def stateOf (s : State) (n : Fin 16) : StationState := (s.stationState n).getD .idle

/-- R32: the effects of an accepted STATION_RETRY before its pass. -/
def retryStation (n : Fin 16) (cls : Fin 4) (s : State) : State :=
  (s.setQueue (s.adm.queue ++ [newEntry n cls true])).modStation n fun r => { r with preCaptured := true }

/-- STATION_RETRY (R32; log 17). -/
def stationRetryTaken (f : Nat × Nat) : State → Answer :=
  withField (numberOf 16 f.1) fun n => withField (numberOf 4 f.2) fun cls s =>
    withSlot (s.station n) (fun r s =>
      if campaignOpen s = false ∨ r.state ≠ .stranded then refuse .wrongState s
      else if hasEntry s n then refuse .duplicate s
      else
        let s := callPass (retryStation n cls s)
        (s, .ok, .retry (stateOf s n) (positionOf s n))) s

/-- R33, R48: the effects of an accepted STATION_RELEASE before its pass. -/
def releaseStation (n : Fin 16) (s : State) : State :=
  let s := s.setQueue (withoutEntry n s.adm.queue)
  let s := (s.bound n).foldl (fun s c => followOrder c s) s
  let s := (reserveBound n false s).setGrace n .notStarted
  changeStation n (fun r => { r with checkpoint := none, preCaptured := false, state := .idle }) s

/-- STATION_RELEASE (R33). -/
def stationReleaseTaken (n : Nat) : State → Answer :=
  withStation n fun n r s =>
    if r.state = .stranded then
      let s' := callPass (releaseStation n s)
      let s' := if hasEntry s n then endTest s' else s'
      (s', .ok, .stationState (stateOf s' n))
    else refuse .wrongState s

/-! ### Settle-until points (R43) -/

/-- R43: local time reaches a present point: it is removed, and a pass follows. -/
def settleExpired (z : Fin 12) (s : State) : State :=
  match tget s.adm.settle z with
  | some t =>
    let s := reach t s
    callPass (s.setAdm { s.adm with settle := tset s.adm.settle z none })
  | none => s

end Sys2Proof.Machine
end

