-- ==== Sys2Proof/Machine/Incident.lean ====
section
/-! DEFINITION. The Incident Input and what the three blocks do at a change of the condition (R123 to R135). -/

namespace Sys2Proof.Machine

/-- R125: the sources change; a change of the condition emits one notice and is handed to the three blocks. -/
def changeSources (f : IncidentInput → IncidentInput) (s : State) : State :=
  let i := f s.inc
  let c := condition i
  if c = condition s.inc then s.setInc i
  else
    (s.setInc { i with
      toAdmission := i.toAdmission ++ [c], toLanes := i.toLanes ++ [c], toChannels := i.toChannels ++ [c] }).emit
      .incident (.incident c i.line i.hostFlag)

/-- R123: the deglitched line state takes the level the line has held. -/
def lineChange (s : State) : State :=
  let v := !s.inc.line
  changeSources (fun i => { i with line := v, lineCount := 0 }) (s.setPins { s.pins with incident := v })

/-- R124: the items of the reply to INCIDENT_DECLARE and INCIDENT_CLEAR. -/
def incidentItems (s : State) : Items := .incident (condition s.inc) s.inc.line s.inc.hostFlag

/-- INCIDENT_DECLARE and INCIDENT_CLEAR (R124). -/
def hostFlagTaken (v : Bool) (_ : Unit) (s : State) : Answer :=
  let s := changeSources (fun i => { i with hostFlag := v }) s
  (s, .ok, incidentItems s)

/-! ### The change to active -/

/-- R129: a lane in ALIGN or MATCH returns to PREPARE with its channels in INCIDENT. -/
def returnToPrepare (l : Fin 4) (n : Fin 16) (s : State) : State :=
  let s := abandonDialogue n s
  let s := s.setLaneRec l { s.laneRec l with timer := none, matchCount := 0 }
  prepareEntry l n ((s.bound n).foldl (fun s c => incidentOrder c s) s)

/-- R128 to R130: a lane takes the change to active. -/
def laneActive (s : State) (l : Fin 4) : State :=
  match (s.laneRec l).station with
  | some n =>
    match (s.laneRec l).stage with
    | .capture => rollbackEntry l n .incident (abandonDialogue n s)
    | .align | .matching => returnToPrepare l n s
    | _ => s
  | none => s

/-- The lanes in CAPTURE, ALIGN and MATCH when the change reaches the Lane Controller. -/
def reachedLanes (s : State) : List (Fin 4) :=
  allLanes.filter fun l =>
    decide ((s.laneRec l).stage = .capture ∨ (s.laneRec l).stage = .align ∨ (s.laneRec l).stage = .matching)

/-- R127: the Channel Unit takes the change to active. -/
def channelsActive (s : State) : State := settleLanes (allChannels.foldl (fun s c => incidentOrder c s) s)

/-! ### The change to inactive -/

/-- R132: the first three rows apply to the channel's owner station. -/
def ownerDown (s : State) (n : Fin 16) : Bool :=
  graceStage (s.stageOf n) || s.stationState n == some .stranded

/-- R132: a channel in INCIDENT leaves it (log 28). -/
def leaveIncident (s : State) (c : Fin 32) : State :=
  match s.channelPlan c with
  | some p =>
    if (s.channel c).mode = .incident then
      if ownerDown s p.owner = true ∧ s.grace p.owner = .expired ∧ s.lawOf c ≠ .none then trackOrder c s
      else holdKeepOrder c s
    else s
  | none => holdKeepOrder c s

/-- R132: the Channel Unit takes the change to inactive. -/
def channelsInactive (s : State) : State := settleLanes (allChannels.foldl leaveIncident s)

/-! ### The six events (log 8) -/

/-- The Admission Unit takes the change at the head of those handed to it, when it is the one named. -/
def takeAdmission (v : Bool) (f : State → State) (s : State) : State :=
  match s.inc.toAdmission with
  | c :: rest => if c = v then f (s.setInc { s.inc with toAdmission := rest }) else s
  | [] => s

/-- The Lane Controller takes the change at the head of those handed to it. -/
def takeLanes (v : Bool) (f : State → State) (s : State) : State :=
  match s.inc.toLanes with
  | c :: rest => if c = v then f (s.setInc { s.inc with toLanes := rest }) else s
  | [] => s

/-- The Channel Unit takes the change at the head of those handed to it. -/
def takeChannels (v : Bool) (f : State → State) (s : State) : State :=
  match s.inc.toChannels with
  | c :: rest => if c = v then f (s.setInc { s.inc with toChannels := rest }) else s
  | [] => s

/-- R128 to R130: the Lane Controller takes the change to active. -/
def lanesActive (s : State) : State := (reachedLanes s).foldl laneActive s

end Sys2Proof.Machine
end

