-- ==== Sys2Proof/Machine/Scan.lean ====
section
/-! DEFINITION. The Sensor Scan Unit (R98 to R107): sequences, conversions, scaling, the filter, validity. -/

namespace Sys2Proof.Machine

/-! ### Sequences (R100 to R103) -/

/-- A conversion takes 2 ms (R100). -/
def conversionTicks : Nat := 32000

/-- R100: the conversion of an input starts. -/
def startConversion (i : Fin 8) (s : State) : State :=
  s.setScan { s.scan with
    scanning := true, index := i, conversionEnd := some (s.now + conversionTicks), discard := false }

/-- R100: the first convertible input of the sequence at or above a number; the others are passed over. -/
def nextInput (s : State) (from_ : Nat) : Option (Fin 8) :=
  allInputs.find? fun i => decide (from_ ≤ i.val) && decide (i.val < s.scan.config.count) && convertible s i

/-- R100: the sequence or single scan is complete. -/
def finishScan (s : State) : State :=
  s.setScan { s.scan with scanning := false, index := 0, conversionEnd := none, discard := false }

/-- R100: the sequence goes on at an input number, or completes. -/
def continueFrom (from_ : Nat) (s : State) : State :=
  match nextInput s from_ with
  | some i => startConversion i s
  | none => finishScan s

/-- R102: a trigger starts a sequence when the scan state is IDLE, and is skipped otherwise. -/
def triggerSequence (s : State) : State := if s.scan.scanning then s else continueFrom 0 s

/-- R102: a second boundary is a trigger in CYCLIC mode with trigger MARK. -/
def markTrigger (s : State) : State :=
  if s.scan.config.mode = .cyclic ∧ s.scan.config.trigger = .mark then triggerSequence s else s

/-- R102: the period timer expires: it restarts, and the expiry is a trigger. -/
def periodExpired (s : State) : State :=
  match s.scan.timer with
  | some t =>
    let s := reach t s
    triggerSequence (s.setScan { s.scan with timer := some (s.now + ticksOfMs s.scan.config.period) })
  | none => s

/-! ### One conversion (R105, R106) -/

/-- R105: the scaled value of a raw value that is not broken. -/
def scaled (p : SensorPlan) (raw : Nat) : Nat :=
  let span := p.rawHi - p.rawLo
  p.valueLo + ((clamp p.rawLo p.rawHi raw - p.rawLo) * (p.valueHi - p.valueLo) + span / 2) / span

/-- R106: one filter step; the quotient is truncated toward zero. -/
def filterStep (shift filtered value : Nat) : Nat :=
  if filtered ≤ value then filtered + (value - filtered) / 2 ^ shift
  else filtered - (filtered - value) / 2 ^ shift

/-- R106: the filtered value after a value: the seed, or one step. -/
def filteredAfter (p : SensorPlan) (r : InputRec) (value : Nat) : Nat :=
  match r.seedPending, r.filtered with
  | false, some f => filterStep p.shift f value
  | _, _ => value

/-- R105: an input record after a completed conversion. -/
def converted (now : Nat) (p : SensorPlan) (raw : Nat) (r : InputRec) : InputRec :=
  if raw < p.rawBroken then
    { r with raw := some raw, ageFrom := some now, broken := true, valid := false, seedPending := true }
  else
    { raw := some raw, value := some (scaled p raw), filtered := some (filteredAfter p r (scaled p raw)),
      broken := false, valid := true, seedPending := false, ageFrom := some now }

/-- R105: the raw value reaches the input record under its plan record at this moment. -/
def storeConversion (i : Fin 8) (raw : Nat) (s : State) : State :=
  match s.sensorPlan i with
  | some p => if p.kind = .unused then s else s.setInput i (converted s.now p raw (s.input i))
  | none => s

/-- R100, R105: the conversion in progress completes; a discarded result reaches no record (R12, R103). -/
def conversionDone (raw : BitVec 12) (s : State) : State :=
  if s.scan.scanning then
    let i := s.scan.index
    let s := reachTimer s.scan.conversionEnd (s.setPins { s.pins with analog := tset s.pins.analog i raw })
    let s := if s.scan.discard then s else storeConversion i raw.toNat s
    if s.scan.config.mode = .single then finishScan s else continueFrom (i.val + 1) s
  else s

/-! ### Validity (R107) -/

/-- R107: an input becomes invalid; the next value seeds the filter. -/
def invalidate (r : InputRec) : InputRec := { r with valid := false, seedPending := true }

/-- R107: the age of a valid input exceeds the stale limit (log 30). -/
def goesStale (i : Fin 8) (s : State) : State :=
  match (s.input i).valid, (s.input i).ageFrom with
  | true, some t =>
    let s := reach (t + ticksOfMs (staleLimit s.scan.config) + 1) s
    s.setInput i (invalidate (s.input i))
  | _, _ => s

/-- R107: a new stale limit below the age of a valid input. -/
def applyLimit (now limit : Nat) (r : InputRec) : InputRec :=
  match r.ageFrom with
  | some t => if r.valid = true ∧ ticksOfMs limit < now - t then invalidate r else r
  | none => r

/-! ### Requests -/

/-- R99, steps 2 to 4: the configuration as stored; none is BAD_FIELD. -/
def scanConfigStored (f : ScanFields) : Option ScanConfig :=
  match scanModeOf f.mode, triggerOf f.trigger, numberOf 8 f.single with
  | some m, some t, some i =>
    if (m = .cyclic ↔ t ≠ .request) then
      some { mode := m, trigger := t, period := clamp 100 5000 f.period, count := clamp 1 8 f.count, single := i }
    else none
  | _, _, _ => none

/-- R99: the effects of an accepted SCAN_CONFIG. -/
def storeScanConfig (c : ScanConfig) (s : State) : State :=
  s.setScan { s.scan with
    config := c
    timer := if c.mode = .cyclic ∧ c.trigger = .period then some (s.now + ticksOfMs c.period) else none
    inputs := tmap (fun _ r => applyLimit s.now (staleLimit c) r) s.scan.inputs }

/-- SCAN_CONFIG (R99). -/
def scanConfigTaken (f : ScanFields) (s : State) : Answer :=
  if s.scan.scanning then refuse .busy s
  else withField (scanConfigStored f) (fun c s => (storeScanConfig c s, .ok, .scanConfig c)) s

/-- R101: SENSOR_SCAN in mode SINGLE, IDLE. -/
def singleScan (s : State) : Answer :=
  let i := s.scan.config.single
  match s.sensorPlan i with
  | none => refuse .notDefined s
  | some p => if p.kind = .unused then refuse .wrongState s else (startConversion i s, .ok, .none)

/-- SENSOR_SCAN (R101). -/
def sensorScanTaken (_ : Unit) (s : State) : Answer :=
  match s.scan.config.mode with
  | .cyclic => refuse .wrongState s
  | .single => if s.scan.scanning then refuse .busy s else singleScan s
  | .sequence => if s.scan.scanning then refuse .busy s else (continueFrom 0 s, .ok, .none)

end Sys2Proof.Machine
end

