-- ==== Sys2Proof/Machine/TimeBase.lean ====
section
/-! DEFINITION. The Time Base (R155 to R171): pulses, samples and rate, the pending mark, holdover, and what the other
blocks see of a boundary. -/

namespace Sys2Proof.Machine

/-! ### The record -/

/-- R160. -/
def rateOf (samples : List Nat) : Nat := if samples = [] then 16000000 else samples.sum / samples.length

/-- R158: the sample set with one more interval. -/
def addSample (samples : List Nat) (i : Nat) : List Nat :=
  (if 8 ≤ samples.length then samples.drop 1 else samples) ++ [i]

/-- R162: the second of day advances by `k`, with its carry into the day. -/
def advanceSeconds (k : Nat) (b : TimeBase) : TimeBase :=
  match b.day, b.second with
  | some d, some x => { b with day := some ((d + (x + k) / 86400) % 65536), second := some ((x + k) % 86400) }
  | _, _ => b

/-- R163: the pending mark is applied; without one, and with time kept, the second advances. -/
def markOrAdvance (k : Nat) (b : TimeBase) : TimeBase :=
  match b.mark with
  | some (d, x) => { b with day := some d, second := some x, mark := none }
  | none => if b.state = .unset then b else advanceSeconds k b

/-- R158, R159, R163, R164, R167: the time state after an accepted boundary that leaves `samples` in the set. -/
def stateAfter (b : TimeBase) (samples : List Nat) : TimeState :=
  match b.state with
  | .unset => if b.mark.isNone then .unset else if samples.length = 8 then .fine else .coarse
  | .coarse => if samples.length = 8 then .fine else .coarse
  | .fine => if samples = [] then .coarse else .fine
  | .holdover => .coarse

/-- R165: the mark watchdog runs 2 s. -/
def watchdogTicks : Nat := 32000000

/-- R158, R159, R163: a pulse accepted at `now`, with the set it leaves and the seconds it advances by. -/
def acceptPulse (now : Nat) (samples : List Nat) (k : Nat) (b : TimeBase) : TimeBase :=
  let st := stateAfter b samples
  { markOrAdvance k b with
    state := st
    last := some (now, .pulse)
    samples := samples
    rateP := rateOf samples
    watchdog := if st = .unset then b.watchdog else some (now + watchdogTicks) }

/-- R159, step 5: the seconds of a late pulse. -/
def lateSeconds (interval p : Nat) : Nat := (interval + p / 2) / p

/-- R167, step 3: the seconds of a pulse that ends holdover, `t` ticks after the last generated boundary. -/
def returnSeconds (t p : Nat) : Nat := if t < p / 2 then 0 else 1

/-- The classes of a pulse (R156), and the pulse that ends HOLDOVER (R167). -/
inductive PulseClass where
  | first
  | glitch
  | good
  | late
  | returned
deriving DecidableEq, Repr

/-- R156. -/
def classOf (b : TimeBase) (now : Nat) : PulseClass :=
  if b.state = .holdover then .returned
  else
    match b.last with
    | none => .first
    | some (t, _) =>
      if now - t < 15992000 then .glitch else if now - t ≤ 16008000 then .good else .late

/-- R156: the interval, in ticks from the last boundary. The count saturates there and the spec gives no ceiling: here it has
none (DESIGN CHOICE, log 39). -/
def intervalAt (b : TimeBase) (now : Nat) : Nat :=
  match b.last with
  | some (t, _) => now - t
  | none => 0

/-- The record after a pulse that is no glitch. -/
def pulseRecord (c : PulseClass) (now : Nat) (b : TimeBase) : TimeBase :=
  match c with
  | .first => acceptPulse now b.samples 0 b
  | .glitch => b
  | .good => acceptPulse now (addSample b.samples (intervalAt b now)) 1 b
  | .late => acceptPulse now [] (lateSeconds (intervalAt b now) b.rateP) b
  | .returned =>
    { acceptPulse now [] (returnSeconds (intervalAt b now) b.rateP) b with holdover := none, nextGenerated := none }

/-! ### What the other blocks see (R169) and the notice (R170) -/

/-- Day and second of day, absent together. -/
def dayAndSecond (b : TimeBase) : Option (Nat × Nat) :=
  match b.day, b.second with
  | some d, some x => some (d, x)
  | _, _ => none

/-- R170: the contents of a NOTE_TIME. -/
def timeNotice (old new : TimeBase) (cause : TimeCause) : Notice :=
  .time new.state old.state cause (dayAndSecond new)
    (if cause = .markApplied ∧ old.state ≠ .unset then dayAndSecond old else none) new.rateP new.samples.length

/-- R170: the cause of the notice of an accepted pulse; none where it emits no notice. -/
def pulseCause (old new : TimeBase) : Option TimeCause :=
  if old.mark.isSome then some .markApplied
  else if new.state = old.state then none
  else
    match old.state with
    | .holdover => some .pulseReturned
    | .fine => some .latePulse
    | _ => some .eighthSample

/-- R38: the second of day passes from outside the window to inside it. -/
def windowOpens (s : State) (old : TimeBase) : Bool :=
  match s.adm.params, old.second, s.time.second with
  | some p, some a, some b => !windowOpen p a && windowOpen p b
  | _, _, _ => false

/-- R37, R169: the Admission Unit is handed the second and the state; one pass (log 21). -/
def handSecond (old : TimeBase) (s : State) : State :=
  if (old.state = .unset ∧ s.time.state ≠ .unset) ∨ windowOpens s old = true then callPass s else s

/-- A new record with its notice. -/
def storeTime (new : TimeBase) (cause : Option TimeCause) (s : State) : State :=
  let s' := s.setTime new
  match cause with
  | some c => s'.emit .time (timeNotice s.time new c)
  | none => s'

/-- R156 to R159, R167: a pulse at the present instant. -/
def pulse (s : State) : State :=
  let old := s.time
  let c := classOf old s.now
  if c = .glitch then s.setTime { old with glitches := satInc 65535 old.glitches }
  else
    let new := pulseRecord c s.now old
    markTrigger (handSecond old (storeTime new (pulseCause old new) s))

/-! ### Watchdog and holdover (R165, R166, R168) -/

/-- R165: 900 s. -/
def holdoverTicks : Nat := 14400000000

/-- R165: the record at the watchdog expiry. -/
def creditRecord (now : Nat) (b : TimeBase) : TimeBase :=
  let k := watchdogTicks / b.rateP
  let from_ := (b.last.map (·.1)).getD 0 + k * b.rateP
  { advanceSeconds k b with
    state := .holdover, last := some (from_, .generated), watchdog := none, holdover := some (now + holdoverTicks),
    nextGenerated := some (from_ + b.rateP) }

/-- R165: the mark watchdog expires. -/
def watchdogExpired (s : State) : State :=
  match s.time.watchdog with
  | some t =>
    let s := reach t s
    let old := s.time
    markTrigger (handSecond old (storeTime (creditRecord s.now old) (some .watchdog) s))
  | none => s

/-- R166: a boundary is generated. -/
def generateBoundary (s : State) : State :=
  match s.time.nextGenerated with
  | some t =>
    let s := reach t s
    let old := s.time
    markTrigger (handSecond old (storeTime { advanceSeconds 1 old with
      last := some (t, .generated), nextGenerated := some (t + old.rateP) } none s))
  | none => s

/-- R168: the holdover timer expires: tunnel time is given up. -/
def holdoverExpired (s : State) : State :=
  match s.time.holdover with
  | some t =>
    let s := reach t s
    storeTime { s.time with
      state := .unset, day := none, second := none, last := none, nextGenerated := none, samples := [],
      rateP := 16000000, holdover := none } (some .holdoverExpired) s
  | none => s

/-! ### Requests -/

/-- TIME_MARK (R162). -/
def timeMarkTaken (f : Nat × Nat) (s : State) : Answer :=
  if 86400 ≤ f.2 then refuse .badField s
  else
    let s := s.setTime { s.time with mark := some f }
    (s, .ok, .timeMark s.time.state s.time.mark (tunnelTime s))

end Sys2Proof.Machine
end

