-- ==== Sys2Proof/Machine/Reads.lean ====
section
/-! DEFINITION. The read requests (R108, R122, R154, R171, R181, R185, R186). They change no state; READ_STATUS alone
clears the notices-lost flag. -/

namespace Sys2Proof.Machine

/-- READ_STATUS (R181): notices-lost is reported as it stood, and cleared. -/
def readStatusTaken (_ : Unit) (s : State) : Answer :=
  (s.setLink { s.link with lost := false }, .ok,
    .status Config.partRevision s.plan.state s.adm.campaign (condition s.inc) s.inc.line s.inc.hostFlag s.time.state
      s.link.lost s.link.parity s.link.framing s.link.crc s.link.length s.link.overrun)

/-- READ_STATION (R185). -/
def stationItems (s : State) (n : Fin 16) (r : StationRec) : Items :=
  .stationRecord n r.state
    (if r.state = .active then (s.laneOf n).map fun l => (l, (s.laneRec l).stage) else none)
    ((positionOf s n).bind fun i => (s.adm.queue[i]?).map fun e => (i, e.preCaptured))
    r.cls r.captureFailures r.attempts r.alignAttempts r.lastReason
    (r.checkpoint.map fun c => (c.bytes.length, c.modeByte))
    r.releaseUnconfirmed r.preCaptured (s.grace n) (graceRemaining s (s.grace n)) (tget s.lane.ready n)
    (tget s.lane.restartLine n)

def readStationTaken (n : Nat) : State → Answer :=
  withStation n fun n r s => (s, .ok, stationItems s n r)

/-- READ_ZONE (R122). -/
def readZoneTaken (z : Nat) : State → Answer :=
  withField (numberOf 12 z) fun z s => withSlot (s.zonePlan z) (fun _ s =>
    (s, .ok, .zoneRecord z (s.zoneRec z) (reservedCapacity s z) (remaining s (tget s.adm.settle z)))) s

/-- R186: the reported items of a channel record. -/
def channelReport (s : State) (r : Channel) : ChannelReport :=
  { mode := r.mode, relay := r.relay, stage := r.stage, level := r.level, sense := r.sense, target := r.target
    reversal := r.reversal, reversalSense := r.reversalSense, dwellRemaining := remaining s r.dwellUntil
    observedLevel := r.observedLevel, observedSense := r.observedSense, loadCurrent := r.loadCurrent
    overload := r.overload, openFlag := r.openFlag }

/-- READ_CHANNEL (R186), answered for every channel. -/
def readChannelTaken (c : Nat) : State → Answer :=
  withField (numberOf 32 c) fun c s =>
    (s, .ok, .channelRecord c (s.channelPlan c).isSome (s.kind c)
      (channelReport s (s.channel c)) (tget s.adm.reserved c))

/-- READ_QUEUE (R186), in queue order. -/
def readQueueTaken (_ : Unit) (s : State) : Answer := (s, .ok, .queue s.adm.queue)

/-- READ_LANE (R186). -/
def readLaneTaken (l : Nat) : State → Answer :=
  withField (numberOf 4 l) fun l s =>
    (s, .ok, .laneRecord l (s.laneRec l) (remaining s (s.laneRec l).timer)
      (s.adm.params.any fun p => decide (l.val < p.lanesInUse)))

/-- READ_SENSOR (R108). -/
def readSensorTaken (i : Nat) : State → Answer :=
  withField (numberOf 8 i) fun i s => withSlot (s.sensorPlan i) (fun p s =>
    (s, .ok, .sensorRecord i p.kind (s.input i) ((inputAge s i).map fun t => min 65535 (t / 16000))
      (staleLimit s.scan.config) s.scan.config s.scan.scanning s.scan.index (remaining s s.scan.timer))) s

/-- READ_TIME (R171). The ticks since the last boundary have no ceiling (DESIGN CHOICE, log 39). -/
def readTimeTaken (_ : Unit) (s : State) : Answer :=
  (s, .ok, .timeRecord s.time.state (tunnelTime s) s.time.mark s.time.rateP s.time.samples s.time.glitches
    (s.time.last.map fun b => (s.now - b.1, b.2))
    ((remaining s s.time.watchdog).orElse fun _ => remaining s s.time.holdover))

/-- R154: the whole port record. -/
def portItems (s : State) (n : Fin 16) : Items :=
  .portRecord n (s.port n) ((s.port n).rate.map divisorError) (remaining s ((s.port n).dialogue.bind (·.timer)))

/-- READ_PORT (R154). -/
def readPortTaken (n : Nat) : State → Answer :=
  withField (numberOf 16 n) fun n s => (s, .ok, portItems s n)

end Sys2Proof.Machine
end

