-- ==== Sys2Proof/Machine/Reset.lean ====
section
/-! DEFINITION. RESET CAMPAIGN (R44, R72, R97, R109, R153) and the full reset of power-on, the reset line and RESET FULL
(R182, R183). -/

namespace Sys2Proof.Machine

/-! ### RESET CAMPAIGN -/

/-- R72, R48: every lane FREE, every restart line released, every hold-grace timer NOT_STARTED (log 27). -/
def resetLanes (s : State) : State :=
  s.setLane { s.lane with
    lanes := tfill 4 Lane.fresh, restartLine := tfill 16 false, grace := tfill 16 .notStarted }

/-- R109: every demand and target dropped, every TRACK count 0. -/
def resetZones (s : State) : State :=
  s.setReg { s.reg with
    zones := tmap (fun _ r => { r with demand := none, target := none, trackCount := 0 }) s.reg.zones }

/-- R44: a defined station becomes IDLE, with a notice when that changes its state. -/
def resetStation (s : State) (n : Fin 16) : State :=
  let f : StationRec → StationRec := fun r => { r with state := .idle, checkpoint := none, preCaptured := false }
  if s.stationState n = some .idle then s.modStation n f else changeStation n f s

/-- R44: the Admission Unit. -/
def resetAdmission (s : State) : State :=
  let s := s.setAdm { s.adm with
    campaign := .idle, params := none, queue := [], reserved := tfill 32 false, settle := tfill 12 none }
  allStations.foldl resetStation s

/-- R182: RESET CAMPAIGN, in one event. -/
def resetCampaignAll (s : State) : State :=
  let s := s.setPorts (tmap (fun _ p => campaignResetPort p) s.ports)
  let s := allChannels.foldl (fun s c => followOrder c s) (resetLanes s)
  resetAdmission (resetZones s)

/-! ### The full reset -/

/-- R172: the rate the straps select, with its divisor. -/
def strapRate (strap1 strap0 : Bool) : Nat :=
  match strap1, strap0 with
  | false, false => 9600
  | false, true => 19200
  | true, false => 38400
  | true, true => 76800

/-- Every block at its values after power-on, with the pins as they stand: the straps select the rate (R172) and each
deglitched ready state takes its line's level (R47). The commands still waiting stay (log 23). -/
def fullReset (pins : Inputs) (s : State) : State :=
  { State.reset with
    pins := pins
    lane := { State.reset.lane with ready := pins.ready }
    link := { State.reset.link with
      rate := strapRate pins.strap1 pins.strap0, divisor := divisorOf (strapRate pins.strap1 pins.strap0) }
    free := s.free
    pending := s.pending }

/-- RESET (R182): CAMPAIGN takes effect in the event; FULL becomes pending. -/
def resetTaken (full : Bool) (s : State) : Answer :=
  if full then (s.setLink { s.link with resetPending := true }, .ok, .scope true)
  else (resetCampaignAll s, .ok, .scope false)

end Sys2Proof.Machine
end

