-- ==== Sys2Proof/Machine/HostLink.lean ====
section
/-! DEFINITION. The Host Link Interface (R172 to R183): the requests by kind, the dispatch, the receive queue, the
receiver, the notice queue, the transmitter. -/

namespace Sys2Proof.Machine

/-! ### Requests of single blocks -/

/-- CHANNEL_CLEAR_FAULT (R94). -/
def channelClearFaultTaken (c : Nat) : State → Answer :=
  withField (numberOf 32 c) fun c s =>
    if (s.channel c).overload = true ∧ overloadCondition s c = true then refuse .wrongState s
    else
      let s := if (s.channel c).overload then clearOverload c s else s
      (s, .ok, .faults (s.channel c).overload (s.channel c).openFlag (s.channel c).stage)

/-- R145: the effects of an accepted PORT_RESET. -/
def resetPort (n : Fin 16) (s : State) : State :=
  let p := resetCounters (s.port n)
  let s' := s.setPort n p
  callPass (if (s.port n).faulted then s'.emit .ports (portNotice n p) else s')

/-- PORT_RESET (R145). -/
def portResetTaken (n : Nat) : State → Answer :=
  withField (numberOf 16 n) fun n s =>
    if (s.port n).dialogue.isSome then refuse .busy s
    else
      let s := resetPort n s
      (s, .ok, portItems s n)

/-- NOTICE_ENABLE (R180): bit 7 names a kind outside the seven (R195). -/
def noticeEnableTaken (x : Nat) (s : State) : Answer :=
  if 128 ≤ x then refuse .badField s
  else
    let v := BitVec.ofNat 7 x
    (s.setLink { s.link with enable := v }, .ok, .enableSet v)

/-! ### The request kinds (R188) -/

/-- What a request kind does with its body; none is an unknown kind. -/
def serviceOf (kind : Nat) : Option (List Byte → State → Answer) :=
  match kind with
  | 0x01 => some fun b => withFields (readNone b) planClearTaken
  | 0x02 => some fun b => withFields (readStationFields b) planStationTaken
  | 0x03 => some fun b => withFields (readZoneFields b) planZoneTaken
  | 0x04 => some fun b => withFields (readChannelFields b) planChannelTaken
  | 0x05 => some fun b => withFields (readSensorFields b) planSensorTaken
  | 0x06 => some fun b => withFields (readNone b) planCheckTaken
  | 0x07 => some fun b => withFields (readTwo b) readPlanTaken
  | 0x10 => some fun b => withFields (readOpen b) campaignOpenTaken
  | 0x11 => some fun b => withFields (readEntries b) campaignAddTaken
  | 0x12 => some fun b => withFields (readOne b) campaignCancelTaken
  | 0x13 => some fun b => withFields (readNone b) campaignHaltTaken
  | 0x14 => some fun b => withFields (readNone b) campaignResumeTaken
  | 0x15 => some fun b => withFields (readNone b) campaignAbortTaken
  | 0x16 => some fun b => withFields (readNone b) campaignCloseTaken
  | 0x18 => some fun b => withFields (readTwo b) stationRetryTaken
  | 0x19 => some fun b => withFields (readOne b) stationReleaseTaken
  | 0x20 => some fun b => withFields (readNone b) readStatusTaken
  | 0x21 => some fun b => withFields (readOne b) readStationTaken
  | 0x22 => some fun b => withFields (readOne b) readZoneTaken
  | 0x23 => some fun b => withFields (readOne b) readChannelTaken
  | 0x24 => some fun b => withFields (readNone b) readQueueTaken
  | 0x25 => some fun b => withFields (readOne b) readLaneTaken
  | 0x26 => some fun b => withFields (readOne b) readSensorTaken
  | 0x27 => some fun b => withFields (readNone b) readTimeTaken
  | 0x28 => some fun b => withFields (readOne b) readPortTaken
  | 0x30 => some fun b => withFields (readScanFields b) scanConfigTaken
  | 0x31 => some fun b => withFields (readNone b) sensorScanTaken
  | 0x32 => some fun b => withFields (readMark b) timeMarkTaken
  | 0x33 => some fun b => withFields (readNone b) (hostFlagTaken true)
  | 0x34 => some fun b => withFields (readNone b) (hostFlagTaken false)
  | 0x35 => some fun b => withFields (readOne b) channelClearFaultTaken
  | 0x36 => some fun b => withFields (readOne b) portResetTaken
  | 0x37 => some fun b => withFields (readOne b) noticeEnableTaken
  | 0x38 => some fun b => withFields (readOne b) fun x => withField (switchOf x) resetTaken
  | _ => none

/-! ### Dispatch (R176, R177) -/

/-- R176: a dispatched request is examined and taken; its reply with the state after it. -/
def handle (r : Request) (s : State) : State × Reply :=
  match serviceOf r.kind.toNat with
  | none => (s, { kind := 0xFF, tag := r.tag, status := .unknownKind, items := .kindReceived r.kind })
  | some f =>
    let a := f r.body s
    (a.1, { kind := r.kind + 0x80, tag := r.tag, status := a.2.1, items := a.2.2 })

/-- R176: the head of the receive queue is dispatched when the slot is empty and no RESET FULL is pending. -/
def dispatch (s : State) : State :=
  match s.link.queue, s.link.slot, s.link.resetPending with
  | r :: rest, none, false =>
    let a := handle r (s.setLink (s.link.setQueue rest))
    a.1.setLink (a.1.link.setSlot (some a.2))
  | _, _, _ => s

/-- R175: a good frame joins the queue, or is lost to overrun. -/
def joinReceive (r : Request) (s : State) : State :=
  if s.link.queue.length < 4 then s.setLink (s.link.setQueue (s.link.queue ++ [r]))
  else s.setLink { s.link with overrun := satInc 65535 s.link.overrun }

/-- R175, R176: a good frame is taken; one that joins an empty queue is dispatched when it can be. -/
def goodFrame (r : Request) (s : State) : State :=
  if s.link.queue = [] then dispatch (joinReceive r s) else joinReceive r s

/-! ### Frames from the host (R173, R174) -/

/-- R174: a frame is abandoned: the length counter. -/
def hostAbandoned (s : State) : State :=
  s.setLink { s.link with length := satInc 65535 s.link.length, rx := none }

/-- R174: the CRC a frame should carry. -/
def hostFrameCrc (f : HostFrame) : Word16 := crc (hostCovered f.kind f.tag f.body)

/-- R173, R174: a frame is taken; a length above 514 is an abandonment (log 32). -/
def hostTaken (f : HostFrame) (s : State) : State :=
  if 512 < f.body.length then hostAbandoned s
  else
    let k := s.link.setRx none
    if f.parityError then s.setLink { k with parity := satInc 65535 k.parity }
    else if f.framingError then s.setLink { k with framing := satInc 65535 k.framing }
    else if hostFrameCrc f ≠ f.crc then s.setLink { k with crc := satInc 65535 k.crc }
    else goodFrame { kind := f.kind, tag := f.tag, body := f.body } (s.setLink k)

/-- R173: a frame is abandoned. A gap ends 20 ms after the latest character, and in HUNT there is no frame to abandon
(log 26); a length field out of range ends the frame at its second character, whatever of it was told before (log 6). -/
def hostFrameGone (cause : AbandonCause) (s : State) : State :=
  match cause, s.link.rx with
  | .gap, some p => hostAbandoned (reach (p.gapFrom + gapTicks) s)
  | .gap, none => s
  | .length, _ => hostAbandoned s

/-- R173: a character that ends a gap of more than 20 ms finds the frame before it abandoned. -/
def hostEndGap (s : State) : State :=
  match s.link.rx with
  | some p => if gapExceeded s.now (charTicks s.link.divisor 1) p.gapFrom then hostAbandoned s else s
  | none => s

/-- What becomes of the receiver at a character. -/
inductive HostFeed where
  | hunt
  | part (p : HostPart)
  | taken (f : HostFrame)
  | abandoned
deriving DecidableEq, Repr

/-- R173: the fields of a frame in order: length, kind, tag, body, CRC. -/
def feedHostPart (now : Nat) (p : HostPart) : HostFeed :=
  match p.chars with
  | lo :: hi :: rest =>
    let len := nat2 lo hi
    if len < 2 ∨ 514 < len then .abandoned
    else
      match rest, rest.drop len with
      | kind :: tag :: body, [a, b] =>
        .taken { kind := kind, tag := tag, body := body.take (len - 2), crc := BitVec.ofNat 16 (nat2 a b),
                 parityError := p.parityError, framingError := p.framingError }
      | _, _ => .part { p with gapFrom := now }
  | _ => .part { p with gapFrom := now }

/-- R173: a character reaches the receiver. -/
def feedHost (now : Nat) (rx : Option HostPart) (c : RxChar) : HostFeed :=
  match rx with
  | none =>
    if c.value = 0xA5 ∧ c.parityError = false ∧ c.framingError = false then
      .part { chars := [], parityError := false, framingError := false, gapFrom := now }
    else .hunt
  | some p =>
    feedHostPart now { p with
      chars := p.chars ++ [c.value], parityError := p.parityError || c.parityError,
      framingError := p.framingError || c.framingError }

/-- A character arrives on the host line (R173). -/
def hostCharacter (c : RxChar) (s : State) : State :=
  let s := hostEndGap s
  match feedHost s.now s.link.rx c with
  | .hunt => s.setLink (s.link.setRx none)
  | .part p => s.setLink (s.link.setRx (some p))
  | .taken f => hostTaken f s
  | .abandoned => hostAbandoned s

/-! ### Notices (R178) -/

/-- The kind of a notice, as its bit in the enable set (R195). -/
def noticeIndex : Notice → Nat
  | .station _ _ _ _ => 0
  | .channel _ _ _ _ _ _ _ _ => 1
  | .zone _ _ _ _ _ _ => 2
  | .time _ _ _ _ _ _ _ => 3
  | .incident _ _ _ => 4
  | .campaign _ _ _ _ _ => 5
  | .port _ _ _ _ _ _ _ _ _ => 6

/-- R188: the kind value of a notice. -/
def noticeKind (n : Notice) : Byte := byteOf (0xC0 + noticeIndex n)

/-- R178: the Interface takes one notice. -/
def takeNotice (k : HostLink) (n : Notice) : HostLink :=
  if k.enable.getLsbD (noticeIndex n) = false then k
  else if k.notices.length < 32 then { k with notices := k.notices ++ [n] }
  else { k with lost := true }

/-- The blocks that still have a notice to queue, by the first of each. -/
def blocksLeft : List (Block × Notice) → List Block
  | [] => []
  | e :: rest => e.1 :: (blocksLeft rest).filter fun b => b != e.1

/-- R178: the notices of one event in the order in which they join the queue: each block's in its own order, and the
block that goes next named by a free value (log 7). The first argument is fuel, the second counts free values. -/
def mergeNotices : Nat → Nat → List (Block × Notice) → List Notice × Nat
  | 0, k, o => (o.map (·.2), k)
  | f + 1, k, o =>
    let bs := blocksLeft o
    if bs.length ≤ 1 then (o.map (·.2), k)
    else
      match bs[Config.noticeOrder k % bs.length]? with
      | none => (o.map (·.2), k)
      | some b =>
        let r := mergeNotices f (k + 1) (o.eraseP fun e => e.1 == b)
        (((o.filter fun e => e.1 == b).take 1).map (·.2) ++ r.1, r.2)

/-- R178: at the end of an event its notices reach the queue. -/
def flush (s : State) : State :=
  let r := mergeNotices s.outbox.length s.free s.outbox
  ((s.setLink (r.1.foldl takeNotice s.link)).setOutbox []).setFree r.2

/-! ### The transmitter (R179) -/

/-- R179: an idle transmitter chooses its next frame. -/
def choose (k : HostLink) : HostLink :=
  match k.tx, k.slot, k.notices with
  | .idle, some _, _ => { k with tx := .reply }
  | .idle, none, n :: rest => { k with tx := .notice n, notices := rest }
  | _, _, _ => k

/-- The end of every event: its notices are queued, then an idle transmitter chooses (log 31). -/
def finish (s : State) : State :=
  let s := flush s
  s.setLink (choose s.link)

/-- R179, R182: the last character of a reply has been sent: the slot empties, and the next request is dispatched, or
the pending full reset takes place. -/
def replyEnds (pins : Inputs) (s : State) : State :=
  match s.link.tx with
  | .reply =>
    if s.link.resetPending then fullReset pins s
    else dispatch (s.setLink ((s.link.setSlot none).setTx .idle))
  | _ => s

/-- R179: a notice has been sent. -/
def noticeEnds (s : State) : State :=
  match s.link.tx with
  | .notice _ => s.setLink (s.link.setTx .idle)
  | _ => s

/-- The frame the transmitter is sending, where the spec gives its layout (R177, R188; log 16). -/
def txFrame (k : HostLink) : Option (List Byte) :=
  match k.tx, k.slot with
  | .reply, some r => (replyBody r).map (hostFrameBytes r.kind r.tag)
  | .notice n, _ => (noticeBody n).map (hostFrameBytes (noticeKind n) 0)
  | _, _ => none

end Sys2Proof.Machine
end

