-- ==== Sys2Proof/Machine/Requests.lean ====
section
/-! DEFINITION. The host's requests as commands: each is the arrival of a good frame of its kind (R175, R176; log 5). It
is dispatched at once when the receive queue and the reply slot are empty; otherwise it waits in the receive queue, or is
lost to overrun. -/

namespace Sys2Proof.Machine

/-- The outcome of a command. -/
abbrev Outcome := Host.Outcome State Fault Refusal

/-- A good host frame of a kind is taken, and the event ends. -/
def request (kind tag : Byte) (body : List Byte) (s : State) : Outcome :=
  .next (finish (goodFrame { kind := kind, tag := tag, body := body } s))

/-- UNKNOWN_KIND_REQUEST (R176, R177). -/
def execUnknownKindRequest (kind tag : Byte) (body : List Byte) (s : State) : Outcome := request kind tag body s

/-- PLAN_CLEAR (R13). -/
def execPlanClear (tag : Byte) (body : List Byte) (s : State) : Outcome := request 0x01 tag body s

/-- PLAN_STATION (R4, R5). -/
def execPlanStation (tag : Byte) (body : List Byte) (s : State) : Outcome := request 0x02 tag body s

/-- PLAN_ZONE (R7). -/
def execPlanZone (tag : Byte) (body : List Byte) (s : State) : Outcome := request 0x03 tag body s

/-- PLAN_CHANNEL (R9). -/
def execPlanChannel (tag : Byte) (body : List Byte) (s : State) : Outcome := request 0x04 tag body s

/-- PLAN_SENSOR (R11). -/
def execPlanSensor (tag : Byte) (body : List Byte) (s : State) : Outcome := request 0x05 tag body s

/-- PLAN_CHECK (R15). -/
def execPlanCheck (tag : Byte) (body : List Byte) (s : State) : Outcome := request 0x06 tag body s

/-- READ_PLAN (R14). -/
def execReadPlan (tag : Byte) (body : List Byte) (s : State) : Outcome := request 0x07 tag body s

/-- CAMPAIGN_OPEN (R20, R21). -/
def execCampaignOpen (tag : Byte) (body : List Byte) (s : State) : Outcome := request 0x10 tag body s

/-- CAMPAIGN_ADD (R22). -/
def execCampaignAdd (tag : Byte) (body : List Byte) (s : State) : Outcome := request 0x11 tag body s

/-- CAMPAIGN_CANCEL (R23). -/
def execCampaignCancel (tag : Byte) (body : List Byte) (s : State) : Outcome := request 0x12 tag body s

/-- CAMPAIGN_HALT (R24). -/
def execCampaignHalt (tag : Byte) (body : List Byte) (s : State) : Outcome := request 0x13 tag body s

/-- CAMPAIGN_RESUME (R24). -/
def execCampaignResume (tag : Byte) (body : List Byte) (s : State) : Outcome := request 0x14 tag body s

/-- CAMPAIGN_ABORT (R25). -/
def execCampaignAbort (tag : Byte) (body : List Byte) (s : State) : Outcome := request 0x15 tag body s

/-- CAMPAIGN_CLOSE (R27). -/
def execCampaignClose (tag : Byte) (body : List Byte) (s : State) : Outcome := request 0x16 tag body s

/-- STATION_RETRY (R32). -/
def execStationRetry (tag : Byte) (body : List Byte) (s : State) : Outcome := request 0x18 tag body s

/-- STATION_RELEASE (R33). -/
def execStationRelease (tag : Byte) (body : List Byte) (s : State) : Outcome := request 0x19 tag body s

/-- READ_STATUS (R181). -/
def execReadStatus (tag : Byte) (body : List Byte) (s : State) : Outcome := request 0x20 tag body s

/-- READ_STATION (R185). -/
def execReadStation (tag : Byte) (body : List Byte) (s : State) : Outcome := request 0x21 tag body s

/-- READ_ZONE (R122). -/
def execReadZone (tag : Byte) (body : List Byte) (s : State) : Outcome := request 0x22 tag body s

/-- READ_CHANNEL (R186). -/
def execReadChannel (tag : Byte) (body : List Byte) (s : State) : Outcome := request 0x23 tag body s

/-- READ_QUEUE (R186). -/
def execReadQueue (tag : Byte) (body : List Byte) (s : State) : Outcome := request 0x24 tag body s

/-- READ_LANE (R186). -/
def execReadLane (tag : Byte) (body : List Byte) (s : State) : Outcome := request 0x25 tag body s

/-- READ_SENSOR (R108). -/
def execReadSensor (tag : Byte) (body : List Byte) (s : State) : Outcome := request 0x26 tag body s

/-- READ_TIME (R171). -/
def execReadTime (tag : Byte) (body : List Byte) (s : State) : Outcome := request 0x27 tag body s

/-- READ_PORT (R154). -/
def execReadPort (tag : Byte) (body : List Byte) (s : State) : Outcome := request 0x28 tag body s

/-- SCAN_CONFIG (R99). -/
def execScanConfig (tag : Byte) (body : List Byte) (s : State) : Outcome := request 0x30 tag body s

/-- SENSOR_SCAN (R101). -/
def execSensorScan (tag : Byte) (body : List Byte) (s : State) : Outcome := request 0x31 tag body s

/-- TIME_MARK (R162). -/
def execTimeMark (tag : Byte) (body : List Byte) (s : State) : Outcome := request 0x32 tag body s

/-- INCIDENT_DECLARE (R124). -/
def execIncidentDeclare (tag : Byte) (body : List Byte) (s : State) : Outcome := request 0x33 tag body s

/-- INCIDENT_CLEAR (R124). -/
def execIncidentClear (tag : Byte) (body : List Byte) (s : State) : Outcome := request 0x34 tag body s

/-- PORT_RESET (R145). -/
def execPortReset (tag : Byte) (body : List Byte) (s : State) : Outcome := request 0x36 tag body s

/-- NOTICE_ENABLE (R180). -/
def execNoticeEnable (tag : Byte) (body : List Byte) (s : State) : Outcome := request 0x37 tag body s

/-- CHANNEL_CLEAR_FAULT (R94). `current` is the load current of the named channel as its detector sees it now. -/
def execChannelClearFault (tag : Byte) (body : List Byte) (current : Nat) (s : State) : Outcome :=
  let seen :=
    match (readOne body).bind (numberOf 32) with
    | some c => s.setPins { s.pins with loadCurrent := tset s.pins.loadCurrent c current }
    | none => s
  request 0x35 tag body seen

/-- RESET with scope CAMPAIGN (R182). -/
def execResetCampaign (tag : Byte) (s : State) : Outcome := request 0x38 tag [0] s

/-- RESET with scope FULL (R182). -/
def execResetFull (tag : Byte) (s : State) : Outcome := request 0x38 tag [1] s

end Sys2Proof.Machine
end

