-- ==== Sys2Proof/Machine/Events.lean ====
section
/-! DEFINITION. The other commands: resets, frames and characters of the two links, expiries of the part's own timers,
edges of its lines, completed samples. An event whose condition does not hold leaves the state as it is (log 26). -/

namespace Sys2Proof.Machine

/-! ### Resets and the host line -/

/-- POWER_ON (R183). -/
def execPowerOn (pins : Inputs) (s : State) : Outcome := .next (finish (fullReset pins s))

/-- RESET_LINE (R182, R183): it takes effect at once and ends a pending RESET FULL. -/
def execResetLine (pins : Inputs) (s : State) : Outcome := .next (finish (fullReset pins s))

/-- HOST_FRAME_TAKEN (R173, R174). -/
def execHostFrameTaken (f : HostFrame) (s : State) : Outcome := .next (finish (hostTaken f s))

/-- HOST_FRAME_ABANDONED (R173, R174). -/
def execHostFrameAbandoned (cause : AbandonCause) (s : State) : Outcome := .next (finish (hostFrameGone cause s))

/-- HOST_CHARACTER_RECEIVED (R173). -/
def execHostCharacterReceived (c : RxChar) (s : State) : Outcome := .next (finish (hostCharacter c s))

/-- REPLY_SENT (R179, R182). -/
def execReplySent (pins : Inputs) (s : State) : Outcome := .next (finish (replyEnds pins s))

/-- NOTICE_SENT (R179). -/
def execNoticeSent (s : State) : Outcome := .next (finish (noticeEnds s))

/-! ### Admission and lanes -/

/-- SETTLE_POINT_EXPIRY (R43). -/
def execSettlePointExpiry (z : Fin 12) (s : State) : Outcome := .next (finish (settleExpired z s))

/-- RESTART_PULSE_END (R55). -/
def execRestartPulseEnd (l : Fin 4) (s : State) : Outcome := .next (finish (stageTimer l .restart pulseEnd s))

/-- BOOT_TIMER_EXPIRY (R57). -/
def execBootTimerExpiry (l : Fin 4) (s : State) : Outcome := .next (finish (stageTimer l .boot bootFailed s))

/-- ALIGN_TIMER_EXPIRY (R68). -/
def execAlignTimerExpiry (l : Fin 4) (s : State) : Outcome := .next (finish (stageTimer l .matching alignExpired s))

/-- READY_RISE (R47, R56): the line has been high for 20 ms. -/
def execReadyRise (n : Fin 16) (s : State) : Outcome := .next (finish (readyRises n s))

/-- READY_FALL (R47, R61): the line has been low for 20 ms. -/
def execReadyFall (n : Fin 16) (s : State) : Outcome := .next (finish (readyFalls n s))

/-- HOLD_GRACE_EXPIRY (R48, R65). -/
def execHoldGraceExpiry (n : Fin 16) (s : State) : Outcome := .next (finish (graceExpired n s))

/-! ### Channels -/

/-- The levels, senses and currents sampled at a measurement. -/
def samplePins (levels : Vector Nat 32) (senses : Vector Sense 32) (currents : Vector Nat 32) (s : State) : State :=
  s.setPins { s.pins with stationLevel := levels, stationSense := senses, loadCurrent := currents }

/-- R79: a measurement of every channel completes; the next follows 100 ms later; the lanes in MATCH test it (R67). -/
def measurement (levels : Vector Nat 32) (senses : Vector Sense 32) (currents : Vector Nat 32) (s : State) : State :=
  let s := measureAll (samplePins levels senses currents (reach s.chan.nextMeasure s))
  matchLanes (s.setChan { s.chan with nextMeasure := s.chan.nextMeasure + ticksOfMs 100 })

/-- MEASUREMENT_COMPLETE (R79, R67). -/
def execMeasurementComplete (levels : Vector Nat 32) (senses : Vector Sense 32) (currents : Vector Nat 32) (s : State) :
    Outcome :=
  .next (finish (measurement levels senses currents s))

/-- R85: a boundary of the regulation period, as the Channel Unit takes it. -/
def rampBoundary (s : State) : State :=
  let s := rampAll (reach s.chan.nextRamp s)
  settleLanes (s.setChan { s.chan with nextRamp := s.chan.nextRamp + ticksOfSec 1 })

/-- REGULATION_BOUNDARY_RAMP (R85). -/
def execRegulationBoundaryRamp (s : State) : Outcome := .next (finish (rampBoundary s))

/-- R110: a boundary of the regulation period, as the Regulator takes it. -/
def zoneBoundary (s : State) : State :=
  let s := regulate (reach s.reg.nextZones s)
  settleLanes (s.setReg { s.reg with nextZones := s.reg.nextZones + ticksOfSec 1 })

/-- REGULATION_BOUNDARY_ZONES (R110). -/
def execRegulationBoundaryZones (s : State) : Outcome := .next (finish (zoneBoundary s))

/-- R89: the run-down dwell of a channel ends. -/
def dwellEnds (c : Fin 32) (s : State) : State :=
  if (s.channel c).reversal = .dwell then
    let s := reachTimer (s.channel c).dwellUntil s
    settleLanes (s.setChannel c (completeReversal (s.channel c)))
  else s

/-- DWELL_END (R89). -/
def execDwellEnd (c : Fin 32) (s : State) : Outcome := .next (finish (dwellEnds c s))

/-- OVERLOAD_LATCHED (R93): the overload condition has held for the deglitch time. -/
def execOverloadLatched (c : Fin 32) (s : State) : Outcome := .next (finish (latchOverload c s))

/-- R95: the OPEN flag is set on a defined channel with open-load detect on. -/
def openSet (c : Fin 32) (s : State) : State :=
  if (s.channelPlan c).any (·.openDetect) = true ∧ (s.channel c).openFlag = false then setOpenFlag c true s else s

/-- OPEN_FLAG_SET (R95): the open-load condition has held for the deglitch time. -/
def execOpenFlagSet (c : Fin 32) (s : State) : Outcome := .next (finish (openSet c s))

/-- R95: a set OPEN flag of a defined channel is cleared. -/
def openCleared (c : Fin 32) (s : State) : State :=
  if (s.channelPlan c).isSome ∧ (s.channel c).openFlag = true then setOpenFlag c false s else s

/-- OPEN_FLAG_CLEARED (R95): the condition has been absent for the deglitch time. -/
def execOpenFlagCleared (c : Fin 32) (s : State) : Outcome := .next (finish (openCleared c s))

/-! ### Sensor scan -/

/-- SCAN_PERIOD_EXPIRY (R102). -/
def execScanPeriodExpiry (s : State) : Outcome := .next (finish (periodExpired s))

/-- CONVERSION_COMPLETE (R100, R105). -/
def execConversionComplete (raw : BitVec 12) (s : State) : Outcome := .next (finish (conversionDone raw s))

/-- INPUT_STALE (R107). -/
def execInputStale (i : Fin 8) (s : State) : Outcome := .next (finish (goesStale i s))

/-! ### Incident -/

/-- INCIDENT_LINE_CHANGE (R123, R125): the line has held the opposite level for 50 ms. -/
def execIncidentLineChange (s : State) : Outcome := .next (finish (lineChange s))

/-- INCIDENT_ACTIVE_ADMISSION (R126): the Admission Unit's state stays as it is; from now on the gate is closed. -/
def execIncidentActiveAdmission (s : State) : Outcome := .next (finish (takeAdmission true id s))

/-- INCIDENT_ACTIVE_LANES (R128, R129, R130). -/
def execIncidentActiveLanes (s : State) : Outcome := .next (finish (takeLanes true lanesActive s))

/-- INCIDENT_ACTIVE_CHANNELS (R127). -/
def execIncidentActiveChannels (s : State) : Outcome := .next (finish (takeChannels true channelsActive s))

/-- INCIDENT_INACTIVE_ADMISSION (R135). -/
def execIncidentInactiveAdmission (s : State) : Outcome := .next (finish (takeAdmission false callPass s))

/-- INCIDENT_INACTIVE_LANES (R133): no lane changes. -/
def execIncidentInactiveLanes (s : State) : Outcome := .next (finish (takeLanes false id s))

/-- INCIDENT_INACTIVE_CHANNELS (R132). -/
def execIncidentInactiveChannels (s : State) : Outcome := .next (finish (takeChannels false channelsInactive s))

/-! ### Field ports -/

/-- FIELD_CHARACTER_RECEIVED (R140, R141). -/
def execFieldCharacterReceived (p : Fin 16) (c : RxChar) (s : State) : Outcome :=
  .next (finish (characterReceived p c s))

/-- FIELD_FRAME_TAKEN (R141, R143, R149). -/
def execFieldFrameTaken (p : Fin 16) (f : FieldFrame) (s : State) : Outcome := .next (finish (wholeFrame p f s))

/-- R141: a frame is abandoned. A gap ends 20 ms after the latest character, and in HUNT there is no frame to abandon
(log 26); a body length above 250 ends the frame at that character, whatever of it was told before (log 6). -/
def fieldFrameGone (p : Fin 16) (cause : AbandonCause) (s : State) : State :=
  match cause, (s.port p).rx with
  | .gap, some r => frameAbandoned p (reach (r.gapFrom + gapTicks) s)
  | .gap, none => s
  | .length, _ => frameAbandoned p s

/-- FIELD_FRAME_ABANDONED (R141, R143). -/
def execFieldFrameAbandoned (p : Fin 16) (cause : AbandonCause) (s : State) : Outcome :=
  .next (finish (fieldFrameGone p cause s))

/-- FIELD_FRAME_SENT (R147). -/
def execFieldFrameSent (p : Fin 16) (s : State) : Outcome := .next (finish (frameSentOn p s))

/-- DIALOGUE_TIMEOUT (R150). -/
def execDialogueTimeout (p : Fin 16) (s : State) : Outcome := .next (finish (dialogueExpired p s))

/-! ### Time Base -/

/-- SECOND_MARK_PULSE (R156): a rising edge `after` ticks from the present instant (log 34). -/
def execSecondMarkPulse (after : Nat) (s : State) : Outcome := .next (finish (pulse (advance after s)))

/-- MARK_WATCHDOG_EXPIRY (R165). -/
def execMarkWatchdogExpiry (s : State) : Outcome := .next (finish (watchdogExpired s))

/-- GENERATED_BOUNDARY (R166). -/
def execGeneratedBoundary (s : State) : Outcome := .next (finish (generateBoundary s))

/-- HOLDOVER_EXPIRY (R168). -/
def execHoldoverExpiry (s : State) : Outcome := .next (finish (holdoverExpired s))

end Sys2Proof.Machine
end

