-- ==== Sys2Proof/Machine/Dispatch.lean ====
section
/-! DEFINITION. The meaning of every command: one arm for each constructor. -/

namespace Sys2Proof.Machine

def exec (i : Instr) (s : State) : Host.Outcome State Fault Refusal :=
  match i with
  | .powerOn pins => Sys2Proof.Machine.execPowerOn pins s
  | .resetLine pins => Sys2Proof.Machine.execResetLine pins s
  | .hostFrameTaken f => Sys2Proof.Machine.execHostFrameTaken f s
  | .hostFrameAbandoned cause => Sys2Proof.Machine.execHostFrameAbandoned cause s
  | .unknownKindRequest kind tag body => Sys2Proof.Machine.execUnknownKindRequest kind tag body s
  | .planClear tag body => Sys2Proof.Machine.execPlanClear tag body s
  | .planStation tag body => Sys2Proof.Machine.execPlanStation tag body s
  | .planZone tag body => Sys2Proof.Machine.execPlanZone tag body s
  | .planChannel tag body => Sys2Proof.Machine.execPlanChannel tag body s
  | .planSensor tag body => Sys2Proof.Machine.execPlanSensor tag body s
  | .planCheck tag body => Sys2Proof.Machine.execPlanCheck tag body s
  | .readPlan tag body => Sys2Proof.Machine.execReadPlan tag body s
  | .campaignOpen tag body => Sys2Proof.Machine.execCampaignOpen tag body s
  | .campaignAdd tag body => Sys2Proof.Machine.execCampaignAdd tag body s
  | .campaignCancel tag body => Sys2Proof.Machine.execCampaignCancel tag body s
  | .campaignHalt tag body => Sys2Proof.Machine.execCampaignHalt tag body s
  | .campaignResume tag body => Sys2Proof.Machine.execCampaignResume tag body s
  | .campaignAbort tag body => Sys2Proof.Machine.execCampaignAbort tag body s
  | .campaignClose tag body => Sys2Proof.Machine.execCampaignClose tag body s
  | .stationRetry tag body => Sys2Proof.Machine.execStationRetry tag body s
  | .stationRelease tag body => Sys2Proof.Machine.execStationRelease tag body s
  | .readStatus tag body => Sys2Proof.Machine.execReadStatus tag body s
  | .readStation tag body => Sys2Proof.Machine.execReadStation tag body s
  | .readZone tag body => Sys2Proof.Machine.execReadZone tag body s
  | .readChannel tag body => Sys2Proof.Machine.execReadChannel tag body s
  | .readQueue tag body => Sys2Proof.Machine.execReadQueue tag body s
  | .readLane tag body => Sys2Proof.Machine.execReadLane tag body s
  | .readSensor tag body => Sys2Proof.Machine.execReadSensor tag body s
  | .readTime tag body => Sys2Proof.Machine.execReadTime tag body s
  | .readPort tag body => Sys2Proof.Machine.execReadPort tag body s
  | .scanConfig tag body => Sys2Proof.Machine.execScanConfig tag body s
  | .sensorScan tag body => Sys2Proof.Machine.execSensorScan tag body s
  | .timeMark tag body => Sys2Proof.Machine.execTimeMark tag body s
  | .incidentDeclare tag body => Sys2Proof.Machine.execIncidentDeclare tag body s
  | .incidentClear tag body => Sys2Proof.Machine.execIncidentClear tag body s
  | .channelClearFault tag body current => Sys2Proof.Machine.execChannelClearFault tag body current s
  | .portReset tag body => Sys2Proof.Machine.execPortReset tag body s
  | .noticeEnable tag body => Sys2Proof.Machine.execNoticeEnable tag body s
  | .resetCampaign tag => Sys2Proof.Machine.execResetCampaign tag s
  | .resetFull tag => Sys2Proof.Machine.execResetFull tag s
  | .replySent pins => Sys2Proof.Machine.execReplySent pins s
  | .noticeSent => Sys2Proof.Machine.execNoticeSent s
  | .settlePointExpiry zone => Sys2Proof.Machine.execSettlePointExpiry zone s
  | .restartPulseEnd lane => Sys2Proof.Machine.execRestartPulseEnd lane s
  | .bootTimerExpiry lane => Sys2Proof.Machine.execBootTimerExpiry lane s
  | .readyRise station => Sys2Proof.Machine.execReadyRise station s
  | .readyFall station => Sys2Proof.Machine.execReadyFall station s
  | .alignTimerExpiry lane => Sys2Proof.Machine.execAlignTimerExpiry lane s
  | .holdGraceExpiry station => Sys2Proof.Machine.execHoldGraceExpiry station s
  | .measurementComplete levels senses currents => Sys2Proof.Machine.execMeasurementComplete levels senses currents s
  | .regulationBoundaryRamp => Sys2Proof.Machine.execRegulationBoundaryRamp s
  | .regulationBoundaryZones => Sys2Proof.Machine.execRegulationBoundaryZones s
  | .dwellEnd channel => Sys2Proof.Machine.execDwellEnd channel s
  | .overloadLatched channel => Sys2Proof.Machine.execOverloadLatched channel s
  | .openFlagSet channel => Sys2Proof.Machine.execOpenFlagSet channel s
  | .openFlagCleared channel => Sys2Proof.Machine.execOpenFlagCleared channel s
  | .scanPeriodExpiry => Sys2Proof.Machine.execScanPeriodExpiry s
  | .conversionComplete raw => Sys2Proof.Machine.execConversionComplete raw s
  | .inputStale input => Sys2Proof.Machine.execInputStale input s
  | .incidentLineChange => Sys2Proof.Machine.execIncidentLineChange s
  | .incidentActiveAdmission => Sys2Proof.Machine.execIncidentActiveAdmission s
  | .incidentActiveLanes => Sys2Proof.Machine.execIncidentActiveLanes s
  | .incidentActiveChannels => Sys2Proof.Machine.execIncidentActiveChannels s
  | .incidentInactiveAdmission => Sys2Proof.Machine.execIncidentInactiveAdmission s
  | .incidentInactiveLanes => Sys2Proof.Machine.execIncidentInactiveLanes s
  | .incidentInactiveChannels => Sys2Proof.Machine.execIncidentInactiveChannels s
  | .fieldCharacterReceived port c => Sys2Proof.Machine.execFieldCharacterReceived port c s
  | .fieldFrameTaken port f => Sys2Proof.Machine.execFieldFrameTaken port f s
  | .fieldFrameAbandoned port cause => Sys2Proof.Machine.execFieldFrameAbandoned port cause s
  | .fieldFrameSent port => Sys2Proof.Machine.execFieldFrameSent port s
  | .dialogueTimeout port => Sys2Proof.Machine.execDialogueTimeout port s
  | .secondMarkPulse after => Sys2Proof.Machine.execSecondMarkPulse after s
  | .markWatchdogExpiry => Sys2Proof.Machine.execMarkWatchdogExpiry s
  | .generatedBoundary => Sys2Proof.Machine.execGeneratedBoundary s
  | .holdoverExpiry => Sys2Proof.Machine.execHoldoverExpiry s
  | .hostCharacterReceived c => Sys2Proof.Machine.execHostCharacterReceived c s

end Sys2Proof.Machine
end

