-- ==== Sys2Proof/Machine/Idle.lean ====
section
/-! DEFINITION. What the block does while no command waits (log 4): the events of its own that have fallen due queue
themselves one at a time, and otherwise one tick of local time passes. The commands of the host, of the stations and of
the master clock, and the end of a reply or a notice on the host line come from outside only (log 16, log 25). -/

namespace Sys2Proof.Machine

/-- A running timer has reached its instant. -/
def isDue (s : State) (t : Option Nat) : Bool := t.any fun d => decide (d ≤ s.now)

/-- A command when a condition holds. -/
def dueIf (b : Bool) (c : Instr) : List Instr := if b then [c] else []

/-- The stage timer of a lane (R45). -/
def dueLane (s : State) (l : Fin 4) : List Instr :=
  if isDue s (s.laneRec l).timer && (s.laneRec l).station.isSome then
    match (s.laneRec l).stage with
    | .restart => [.restartPulseEnd l]
    | .boot => [.bootTimerExpiry l]
    | .matching => [.alignTimerExpiry l]
    | _ => []
  else []

/-- The hold-grace timer (R48) and the ready line (R47) of a station: 20 ms at the opposite level. -/
def dueStation (s : State) (n : Fin 16) : List Instr :=
  (match s.grace n with
    | .running t => dueIf (isDue s (some t)) (.holdGraceExpiry n)
    | _ => []) ++
  dueIf (tget s.pins.ready n != tget s.lane.ready n && decide (ticksOfMs 20 ≤ tget s.lane.readyCount n))
    (if tget s.lane.ready n then .readyFall n else .readyRise n)

/-- R140, R141, R173: the gap inside a frame exceeds 20 ms, and no character whose start bit came in time can still end
(log 25). -/
def gapDue (s : State) (divisor gapFrom : Nat) : Bool := decide (gapFrom + gapTicks + charTicks divisor 1 < s.now)

/-- The gap inside a frame being received (R141), the frame being sent (R147) and the dialogue timer (R150) of a port. -/
def duePort (s : State) (n : Fin 16) : List Instr :=
  dueIf ((s.port n).rate.isSome && (s.port n).rx.any fun r => gapDue s ((s.port n).divisor.getD 0) r.gapFrom)
      (.fieldFrameAbandoned n .gap) ++
    dueIf (isDue s ((s.port n).sending.map (·.doneAt))) (.fieldFrameSent n) ++
    dueIf (isDue s ((s.port n).dialogue.bind (·.timer))) (.dialogueTimeout n)

/-- The dwell (R88) and the two fault detectors (R93, R95) of a channel. -/
def dueChannel (s : State) (c : Fin 32) : List Instr :=
  let r := s.channel c
  dueIf (decide (r.reversal = .dwell) && isDue s r.dwellUntil) (.dwellEnd c) ++
    match s.channelPlan c with
    | none => []
    | some p =>
      dueIf (!r.overload && overloadCondition s c && decide (ticksOfMs p.deglitch ≤ r.overloadProgress))
        (.overloadLatched c) ++
      dueIf (!r.openFlag && openCondition s c && decide (ticksOfMs p.deglitch ≤ r.openProgress)) (.openFlagSet c) ++
      dueIf (r.openFlag && !openCondition s c && decide (ticksOfMs p.deglitch ≤ r.openProgress)) (.openFlagCleared c)

/-- The age of an input (R107). -/
def dueInput (s : State) (i : Fin 8) : List Instr :=
  dueIf ((s.input i).valid &&
    ((inputAge s i).any fun a => decide (ticksOfMs (staleLimit s.scan.config) < a))) (.inputStale i)

/-- The change a block takes next (R125). -/
def dueChange (l : List Bool) (active inactive : Instr) : List Instr :=
  match l with
  | [] => []
  | true :: _ => [active]
  | false :: _ => [inactive]

/-- The events of the part's own that have fallen due. -/
def dueEvents (s : State) : List Instr :=
  dueIf (decide (s.chan.nextMeasure ≤ s.now))
    (.measurementComplete s.pins.stationLevel s.pins.stationSense s.pins.loadCurrent) ++
  dueIf (decide (s.chan.nextRamp ≤ s.now)) .regulationBoundaryRamp ++
  dueIf (decide (s.reg.nextZones ≤ s.now)) .regulationBoundaryZones ++
  dueIf (isDue s s.scan.timer) .scanPeriodExpiry ++
  dueIf (s.scan.scanning && isDue s s.scan.conversionEnd) (.conversionComplete (tget s.pins.analog s.scan.index)) ++
  dueIf (isDue s s.time.watchdog) .markWatchdogExpiry ++
  dueIf (isDue s s.time.nextGenerated) .generatedBoundary ++
  dueIf (isDue s s.time.holdover) .holdoverExpiry ++
  dueIf (s.link.rx.any fun r => gapDue s s.link.divisor r.gapFrom) (.hostFrameAbandoned .gap) ++
  dueIf (s.pins.incident != s.inc.line && decide (ticksOfMs 50 ≤ s.inc.lineCount)) .incidentLineChange ++
  dueChange s.inc.toAdmission .incidentActiveAdmission .incidentInactiveAdmission ++
  dueChange s.inc.toLanes .incidentActiveLanes .incidentInactiveLanes ++
  dueChange s.inc.toChannels .incidentActiveChannels .incidentInactiveChannels ++
  allZones.flatMap (fun z => dueIf (isDue s (tget s.adm.settle z)) (.settlePointExpiry z)) ++
  allLanes.flatMap (dueLane s) ++ allStations.flatMap (dueStation s) ++ allStations.flatMap (duePort s) ++
  allChannels.flatMap (dueChannel s) ++ allInputs.flatMap (dueInput s)

/-- The event taken next of several that are due (log 33): none where nothing is due. -/
def nextDue (k : Nat) (due : List Instr) : Option Instr := due[Config.dueOrder k % due.length]?

/-- The block with no command waiting: an event that has fallen due joins the queue, or one tick of local time passes. -/
def idle (s : State) : State :=
  match dueEvents s with
  | [] => advance 1 s
  | [c] => s.setPending [c]
  | cs =>
    match nextDue s.free cs with
    | some c => (s.setPending [c]).setFree (s.free + 1)
    | none => s

end Sys2Proof.Machine
end

