-- ==== Sys2Proof/Safety.lean ====
section
/-! DEFINITION. What the statements speak of: what a step leaves as it was, the events that have fallen due, the reply of a
request, what the rules make of the restart of one station and of an admission pass, and the invariants of the links, the
channels, the zones, the Time Base, the sensor scan, the plan and the restart. -/

namespace Sys2Proof.Machine

/-! ### Frames -/

/-- The fields of the state. -/
inductive Part where
  | now
  | pins
  | plan
  | adm
  | lane
  | chan
  | scan
  | reg
  | inc
  | ports
  | time
  | link
  | outbox
  | free
  | pending
deriving DecidableEq, Repr

/-- A field of the state is the same in both states. -/
def samePart (s t : State) : Part → Prop
  | .now => t.now = s.now
  | .pins => t.pins = s.pins
  | .plan => t.plan = s.plan
  | .adm => t.adm = s.adm
  | .lane => t.lane = s.lane
  | .chan => t.chan = s.chan
  | .scan => t.scan = s.scan
  | .reg => t.reg = s.reg
  | .inc => t.inc = s.inc
  | .ports => t.ports = s.ports
  | .time => t.time = s.time
  | .link => t.link = s.link
  | .outbox => t.outbox = s.outbox
  | .free => t.free = s.free
  | .pending => t.pending = s.pending

/-- Every field but those listed is the same in both states. -/
def keepsBut (changed : List Part) (s t : State) : Prop := ∀ p, p ∉ changed → samePart s t p

/-! ### Local time -/

/-- R93: the load current exceeds the overload threshold of the channel's record: 20.0 mA or 40.0 mA, in tenths. -/
def overloaded (s : State) (c : Fin 32) : Prop :=
  ∃ p, s.channelPlan c = some p ∧ (if p.threshold = .low then 200 else 400) < tget s.pins.loadCurrent c

/-- R77, R95: open-load detect is on, the field receives level 100 or more, and the load current is below 0.2 mA. -/
def openLoaded (s : State) (c : Fin 32) : Prop :=
  ∃ p, s.channelPlan c = some p ∧ p.openDetect = true ∧
    100 ≤ (if (s.channel c).mode = .follow then (s.channel c).observedLevel
      else if (s.channel c).stage = true then (s.channel c).level else 0) ∧
    tget s.pins.loadCurrent c < 2

/-- R107: the stale limit of a scan configuration, in ticks. -/
def staleTicks (k : ScanConfig) : Nat :=
  if k.mode = .cyclic ∧ k.trigger = .period then 3 * k.period * 16000
  else if k.mode = .cyclic ∧ k.trigger = .mark then 48000000
  else 80000000

/-- A running timer has reached the instant at which it runs out (log 3). -/
def ranOut (s : State) (timer : Option Nat) : Prop := ∃ d, timer = some d ∧ d ≤ s.now

/-- R140, R141, R173: 20 ms and one character time have passed since the latest character of a frame (log 25). -/
def gapRanOut (s : State) (divisor gapFrom : Nat) : Prop := gapFrom + 320000 + 176 * divisor < s.now

/-- The events of the part's own (log 4), and the rules by which each has fallen due: a timer or a period that has run
out, a gap that has lasted, a line or a fault condition held for its deglitch time, an age above the stale limit, a change
of the incident condition that a block has still to take (log 8). -/
def due (s : State) : Instr → Prop
  | .measurementComplete levels senses currents =>
    s.chan.nextMeasure ≤ s.now ∧ levels = s.pins.stationLevel ∧ senses = s.pins.stationSense ∧
      currents = s.pins.loadCurrent
  | .regulationBoundaryRamp => s.chan.nextRamp ≤ s.now
  | .regulationBoundaryZones => s.reg.nextZones ≤ s.now
  | .scanPeriodExpiry => ranOut s s.scan.timer
  | .conversionComplete raw =>
    s.scan.scanning = true ∧ ranOut s s.scan.conversionEnd ∧ raw = tget s.pins.analog s.scan.index
  | .inputStale i =>
    (s.input i).valid = true ∧ ∃ a, (s.input i).ageFrom = some a ∧ staleTicks s.scan.config < s.now - a
  | .markWatchdogExpiry => ranOut s s.time.watchdog
  | .generatedBoundary => ranOut s s.time.nextGenerated
  | .holdoverExpiry => ranOut s s.time.holdover
  | .hostFrameAbandoned .gap => ∃ r, s.link.rx = some r ∧ gapRanOut s s.link.divisor r.gapFrom
  | .incidentLineChange => s.pins.incident ≠ s.inc.line ∧ 800000 ≤ s.inc.lineCount
  | .incidentActiveAdmission => ∃ more, s.inc.toAdmission = true :: more
  | .incidentInactiveAdmission => ∃ more, s.inc.toAdmission = false :: more
  | .incidentActiveLanes => ∃ more, s.inc.toLanes = true :: more
  | .incidentInactiveLanes => ∃ more, s.inc.toLanes = false :: more
  | .incidentActiveChannels => ∃ more, s.inc.toChannels = true :: more
  | .incidentInactiveChannels => ∃ more, s.inc.toChannels = false :: more
  | .settlePointExpiry z => ranOut s (tget s.adm.settle z)
  | .restartPulseEnd l =>
    (s.laneRec l).stage = .restart ∧ (s.laneRec l).station ≠ none ∧ ranOut s (s.laneRec l).timer
  | .bootTimerExpiry l => (s.laneRec l).stage = .boot ∧ (s.laneRec l).station ≠ none ∧ ranOut s (s.laneRec l).timer
  | .alignTimerExpiry l =>
    (s.laneRec l).stage = .matching ∧ (s.laneRec l).station ≠ none ∧ ranOut s (s.laneRec l).timer
  | .holdGraceExpiry n => ∃ d, s.grace n = .running d ∧ d ≤ s.now
  | .readyRise n =>
    tget s.pins.ready n = true ∧ tget s.lane.ready n = false ∧ 320000 ≤ tget s.lane.readyCount n
  | .readyFall n =>
    tget s.pins.ready n = false ∧ tget s.lane.ready n = true ∧ 320000 ≤ tget s.lane.readyCount n
  | .fieldFrameAbandoned n .gap =>
    (s.port n).rate ≠ none ∧ ∃ r, (s.port n).rx = some r ∧ gapRanOut s ((s.port n).divisor.getD 0) r.gapFrom
  | .fieldFrameSent n => ∃ x, (s.port n).sending = some x ∧ x.doneAt ≤ s.now
  | .dialogueTimeout n => ∃ d, (s.port n).dialogue = some d ∧ ranOut s d.timer
  | .dwellEnd c => (s.channel c).reversal = .dwell ∧ ranOut s (s.channel c).dwellUntil
  | .overloadLatched c =>
    (s.channel c).overload = false ∧ overloaded s c ∧
      ∃ p, s.channelPlan c = some p ∧ p.deglitch * 16000 ≤ (s.channel c).overloadProgress
  | .openFlagSet c =>
    (s.channel c).openFlag = false ∧ openLoaded s c ∧
      ∃ p, s.channelPlan c = some p ∧ p.deglitch * 16000 ≤ (s.channel c).openProgress
  | .openFlagCleared c =>
    (s.channel c).openFlag = true ∧ ¬openLoaded s c ∧
      ∃ p, s.channelPlan c = some p ∧ p.deglitch * 16000 ≤ (s.channel c).openProgress
  | _ => False

/-- R47, R92, R93, R95, R123: one tick of local time counts on each deglitch of `s`, and leaves in `t` how long its
condition has held without interruption, 0 where it does not hold. While the OPEN flag is set its detector counts the
absence of the condition. -/
structure Deglitched (s t : State) : Prop where
  overload : ∀ c,
    (overloaded s c → (t.channel c).overloadProgress = (s.channel c).overloadProgress + 1) ∧
    (¬overloaded s c → (t.channel c).overloadProgress = 0)
  openLoad : ∀ c,
    ((openLoaded s c ↔ (s.channel c).openFlag = false) → (t.channel c).openProgress = (s.channel c).openProgress + 1) ∧
    (¬(openLoaded s c ↔ (s.channel c).openFlag = false) → (t.channel c).openProgress = 0)
  ready : ∀ n, tget t.lane.readyCount n =
    if tget s.pins.ready n = tget s.lane.ready n then 0 else tget s.lane.readyCount n + 1
  line : t.inc.lineCount = if s.pins.incident = s.inc.line then 0 else s.inc.lineCount + 1

/-! ### The host link -/

/-- The link but for the notice queue, the notices-lost flag and the transmitter, which the notices of an event move. -/
def HostLink.core (k : HostLink) : HostLink := { k with notices := [], lost := false, tx := .idle }

/-- A request taken now is dispatched in its event (R176). -/
def linkReady (s : State) : Prop := s.link.queue = [] ∧ s.link.slot = none ∧ s.link.resetPending = false

/-- The reply slot holds a reply of the kind of a request, and the rest of the link is as it was but for the notices. -/
def replied (s t : State) (kind tag : Byte) (st : Status) (items : Items) : Prop :=
  t.link.core = { s.link with slot := some { kind := kind + 0x80, tag := tag, status := st, items := items } }.core

/-- A request is taken and answered: its reply enters the slot, and every field but those listed is as it was. -/
def answered (changed : List Part) (s t : State) (kind tag : Byte) (st : Status) (items : Items) : Prop :=
  replied s t kind tag st items ∧ t.outbox = [] ∧ keepsBut (changed ++ [.link, .outbox, .free]) s t

/-- A request whose effects are those of `v` is answered: its reply enters the slot, and the event ends. -/
def answeredWith (kind tag : Byte) (st : Status) (items : Items) (v : State) : State :=
  finish { v with
    link := { v.link with slot := some { kind := kind + 0x80, tag := tag, status := st, items := items } } }

/-- The notices of an event join the notice queue, the transmitter chooses, and nothing else of the link changes (R178,
R179). -/
def noted (s t : State) (ns : List Notice) : Prop :=
  t.link = choose (ns.foldl takeNotice s.link) ∧ t.outbox = []

/-- A good frame as the receiver takes it (R174). -/
def goodHostFrame (f : HostFrame) : Prop :=
  f.body.length ≤ 512 ∧ f.parityError = false ∧ f.framingError = false ∧ hostFrameCrc f = f.crc

/-- R188: the row of the command table that stands for a frame of a kind; a frame of kind 0x38 has one for each scope,
and a frame of kind 0x35 carries the load current of its channel as it stands. -/
def requestRow (pins : Inputs) (kind tag : Byte) (b : List Byte) : Option Instr :=
  match kind.toNat with
  | 0x01 => some (.planClear tag b)
  | 0x02 => some (.planStation tag b)
  | 0x03 => some (.planZone tag b)
  | 0x04 => some (.planChannel tag b)
  | 0x05 => some (.planSensor tag b)
  | 0x06 => some (.planCheck tag b)
  | 0x07 => some (.readPlan tag b)
  | 0x10 => some (.campaignOpen tag b)
  | 0x11 => some (.campaignAdd tag b)
  | 0x12 => some (.campaignCancel tag b)
  | 0x13 => some (.campaignHalt tag b)
  | 0x14 => some (.campaignResume tag b)
  | 0x15 => some (.campaignAbort tag b)
  | 0x16 => some (.campaignClose tag b)
  | 0x18 => some (.stationRetry tag b)
  | 0x19 => some (.stationRelease tag b)
  | 0x20 => some (.readStatus tag b)
  | 0x21 => some (.readStation tag b)
  | 0x22 => some (.readZone tag b)
  | 0x23 => some (.readChannel tag b)
  | 0x24 => some (.readQueue tag b)
  | 0x25 => some (.readLane tag b)
  | 0x26 => some (.readSensor tag b)
  | 0x27 => some (.readTime tag b)
  | 0x28 => some (.readPort tag b)
  | 0x30 => some (.scanConfig tag b)
  | 0x31 => some (.sensorScan tag b)
  | 0x32 => some (.timeMark tag b)
  | 0x33 => some (.incidentDeclare tag b)
  | 0x34 => some (.incidentClear tag b)
  | 0x35 => some (.channelClearFault tag b
      ((((readOne b).bind (numberOf 32)).map (tget pins.loadCurrent)).getD 0))
  | 0x36 => some (.portReset tag b)
  | 0x37 => some (.noticeEnable tag b)
  | 0x38 =>
    if b = [0] then some (.resetCampaign tag) else if b = [1] then some (.resetFull tag) else none
  | _ => some (.unknownKindRequest kind tag b)

/-- The commands of a list, one after another. -/
def runAll : List Instr → State → Option State
  | [], s => some s
  | c :: rest, s =>
    match exec c s with
    | .next t => runAll rest t
    | _ => none

/-- The transmitter has nothing to choose: it is sending, or nothing waits (R179). -/
def HostLink.settled (k : HostLink) : Prop := k.tx = .idle → k.slot = none ∧ k.notices = []

/-- R172 to R183: the host link between events. -/
structure LinkInv (k : HostLink) : Prop where
  rate : (k.rate, k.divisor) ∈ [(9600, 104), (19200, 52), (38400, 26), (76800, 13)]
  queue : k.queue.length ≤ 4
  notices : k.notices.length ≤ 32
  waits : k.slot = none → k.queue = [] ∧ k.resetPending = false
  reply : k.tx = .reply → k.slot ≠ none
  settled : k.settled
  counters : k.parity ≤ 65535 ∧ k.framing ≤ 65535 ∧ k.crc ≤ 65535 ∧ k.length ≤ 65535 ∧ k.overrun ≤ 65535

/-! ### The plan's requests -/

/-- R3: the plan gate, as the rule words it. -/
def gateOpen (s : State) : Prop := s.adm.campaign = .idle ∧ ∀ n, s.stationState n ≠ some .stranded

/-- R111, R120, R121: the notices of a plan that leaves READY: one for each set blind flag, in zone order (log 22). -/
def clearedNotes (s : State) : List (Block × Notice) :=
  if s.plan.state = .ready then
    (allZones.filter fun z => (s.zoneRec z).blind).map fun z =>
      (.regulator, .zone z false [] (s.zoneRec z).demand (s.zoneRec z).target (s.zoneRec z).trackCount)
  else []

/-- R2, R4, R111: the state after an accepted write of the tables in `p`: the plan is DRAFT and holds no derived values;
a plan that was READY loses its blind flags. -/
def planWritten (p : PlanStore) (s : State) : State :=
  { s with
    plan := { p with state := .draft, derived := none }
    reg := { s.reg with
      zones := tmap (fun _ r => if s.plan.state = .ready then { r with blind := false, blindInputs := [] } else r)
        s.reg.zones }
    outbox := s.outbox ++ clearedNotes s }

/-- R111: the invalid configured inputs of a zone; none where the zone is undefined or its law is NONE. -/
def blindList (s : State) (z : Fin 12) : Option (List (Fin 8)) :=
  match s.zonePlan z with
  | some p => if p.law = .none then none else some ((lawInputs p.law).filter fun i => !(s.input i).valid)
  | none => none

/-- R111: the zone record with its blind flag formed. -/
def blindRecord (s : State) (z : Fin 12) (r : ZoneRec) : ZoneRec :=
  match blindList s z with
  | some bad => { r with blind := decide (bad ≠ []), blindInputs := bad }
  | none => r

/-- R111, R121: the notice of the forming of a zone's blind flag: for a change of the flag, or of the list while the
flag stays set. Demand, target and TRACK count are those before the later steps of the event (log 37). -/
def blindNote (s : State) (z : Fin 12) : Option (Block × Notice) :=
  (blindList s z).bind fun bad =>
    if (s.zoneRec z).blind ≠ decide (bad ≠ []) ∨ (bad ≠ [] ∧ (s.zoneRec z).blindInputs ≠ bad) then
      some (.regulator, .zone z (decide (bad ≠ [])) bad (s.zoneRec z).demand (s.zoneRec z).target
        (s.zoneRec z).trackCount)
    else none

/-- R111, R121: the notices of the forming of every blind flag, in zone order (log 22). -/
def blindNotes (s : State) : List (Block × Notice) := allZones.filterMap (blindNote s)

/-- R16, R17: check `code` fails at the slot `index`. -/
def planFault (p : PlanStore) (code index : Nat) : Prop :=
  (code = 1 ∧ ∃ n : Fin 16, n.val = index ∧ tget p.stations n ≠ none ∧
    ((boundOf p n).length = 0 ∨ 8 < (boundOf p n).length)) ∨
  (code = 2 ∧ ∃ (z : Fin 12) (r : ZonePlan), z.val = index ∧ tget p.zones z = some r ∧
    match r.law with
    | .none => False
    | .light i _ _ => ∀ q, tget p.sensors i = some q → q.kind ≠ .luminance
    | .vent co _ _ ext _ _ =>
      (∃ i, co = some i ∧ ∀ q, tget p.sensors i = some q → q.kind ≠ .co) ∨
        ∃ i, ext = some i ∧ ∀ q, tget p.sensors i = some q → q.kind ≠ .extinction) ∨
  (code = 3 ∧ ∃ (c : Fin 32) (r : ChannelPlan), c.val = index ∧ tget p.channels c = some r ∧
    (tget p.stations r.owner = none ∨ tget p.zones r.zone = none)) ∨
  (code = 4 ∧ ∃ (n : Fin 16) (z : Fin 12), n.val = index ∧ tget p.stations n ≠ none ∧ capOf p n z ≠ 0 ∧
    ((tget p.zones z).map (·.holdLimit)).getD 0 * totalOf p z < 1000 * capOf p n z)

/-! ### The restart of one station -/

/-- R28, R192: the NOTE_STATION of a change of state to one other than ACTIVE. -/
def stateNote (n : Fin 16) (r : StationRec) : Block × Notice := (.admission, .station n r.state none r.lastReason)

/-- R46, R192: the NOTE_STATION of the entry of a lane into a stage. -/
def stageNote (n : Fin 16) (r : StationRec) (l : Fin 4) (st : Stage) : Block × Notice :=
  (.lanes, .station n r.state (if r.state = .active then some (l, st) else none) r.lastReason)

/-- R46: lane `l` takes the record `x`, in whose stage it now is, and its station the record `r`. -/
def laneEnters (l : Fin 4) (n : Fin 16) (x : Lane) (r : StationRec) (v : State) : State :=
  { v with
    lane := { v.lane with lanes := tset v.lane.lanes l x }
    adm := { v.adm with stations := tset v.adm.stations n (some r) }
    outbox := v.outbox ++ [stageNote n r l x.stage] }

/-- R26, R31, R37, R45: lane `l` reports its outcome and is freed; the station takes the record `r` and the queue is
`q`; then the campaign-end test and one pass. -/
def laneReports (l : Fin 4) (n : Fin 16) (r : StationRec) (q : List QueueEntry) (v : State) : State :=
  callPass (endTest { v with
    lane := { v.lane with lanes := tset v.lane.lanes l Lane.fresh }
    adm := { v.adm with stations := tset v.adm.stations n (some r), queue := q }
    outbox := v.outbox ++ [stateNote n r] })

/-- R66, R73: the lane strands its station; with the hold-grace timer EXPIRED the take-over comes first. -/
def strands (l : Fin 4) (n : Fin 16) (r : StationRec) (why : Reason) (v : State) : State :=
  let w := takeOverIfExpired n v
  laneReports l n { r with state := .stranded, lastReason := some why, preCaptured := false } w.adm.queue w

/-- R31, R70: the station is DONE; `unconfirmed` when its RELEASE was never acknowledged. -/
def completes (l : Fin 4) (n : Fin 16) (r : StationRec) (unconfirmed : Bool) (v : State) : State :=
  laneReports l n { r with
    state := .done, checkpoint := none, preCaptured := false
    releaseUnconfirmed := r.releaseUnconfirmed || unconfirmed } v.adm.queue v

/-- R31, R54: ROLLBACK ends. While ABORTING, or after an abort, the station is CANCELLED; after an incident it is QUEUED
again at the head; otherwise a capture failure is counted, and it is QUEUED again at the tail or DECLINED. -/
def rolledBack (l : Fin 4) (n : Fin 16) (p : StationPlan) (r : StationRec) (why : Reason) (v : State) : State :=
  let failures := min 4 (r.captureFailures + 1)
  let r' := { r with lastReason := some why, checkpoint := none, preCaptured := false }
  let counted := { r' with captureFailures := failures }
  let entry : QueueEntry :=
    { station := n, cls := r.cls, preCaptured := false, passOver := 0, pinned := false, block := .none }
  if why = .aborted then laneReports l n { r' with state := .cancelled } v.adm.queue v
  else if why = .incident then
    if v.adm.campaign = .aborting then laneReports l n { r' with state := .cancelled } v.adm.queue v
    else laneReports l n { r' with state := .queued } (entry :: v.adm.queue) v
  else if v.adm.campaign = .aborting then laneReports l n { counted with state := .cancelled } v.adm.queue v
  else if failures ≤ p.retryLimit then laneReports l n { counted with state := .queued } (v.adm.queue ++ [entry]) v
  else laneReports l n { counted with state := .declined } v.adm.queue v

/-- R36, R53: the entry into ROLLBACK: the reason, the release of the reservations with its pass, and THAW, which fails
at once on a FAULTED port (R75). -/
def rollsBack (l : Fin 4) (n : Fin 16) (p : StationPlan) (r : StationRec) (why : Reason) (v : State) : State :=
  let w := laneEnters l n { v.laneRec l with stage := .rollback, timer := none, rollbackReason := some why } r v
  let w := callPass { w with adm := { w.adm with
    reserved := tmap (fun c b => b && decide (c ∉ v.bound n)) w.adm.reserved } }
  let o := openDialogue n .thaw [] w
  if o.2 then rolledBack l n p r why o.1 else o.1

/-- R55, R58, R66: the entry into RESTART. -/
def restarts (l : Fin 4) (n : Fin 16) (p : StationPlan) (r : StationRec) (v : State) : State :=
  let w := laneEnters l n { v.laneRec l with
      stage := .restart, timer := some (v.now + p.restartPulse * 16000), seenReadyLow := false }
    { r with attempts := min (r.attempts + 1) (p.retryLimit + 1) } v
  takeOverIfExpired n { w with lane := { w.lane with restartLine := tset w.lane.restartLine n true } }

/-- R57, R60: another RESTART while the attempts are at most the retry limit, and otherwise the strand. -/
def restartsOrStrands (l : Fin 4) (n : Fin 16) (p : StationPlan) (r : StationRec) (why : Reason) (v : State) : State :=
  if r.attempts ≤ p.retryLimit then restarts l n p r v else strands l n r why v

/-- R55, R66: the entry into BOOT. -/
def boots (l : Fin 4) (n : Fin 16) (p : StationPlan) (r : StationRec) (v : State) : State :=
  takeOverIfExpired n (laneEnters l n { v.laneRec l with
    stage := .boot, timer := some (v.now + p.bootTimeout * 16000000) } r v)

/-- R59, R60: RESTORE is opened in the lane's mode; on a FAULTED port it fails at once. -/
def sendsRestore (l : Fin 4) (n : Fin 16) (p : StationPlan) (r : StationRec) (v : State) : State :=
  let o := openDialogue n .restore (restoreBody v n (v.laneRec l).mode) v
  if o.2 then restartsOrStrands l n p r .restoreTimeout o.1 else o.1

/-- R56, R59, R66: the entry into RESTORE. -/
def restores (l : Fin 4) (n : Fin 16) (p : StationPlan) (r : StationRec) (v : State) : State :=
  sendsRestore l n p r (takeOverIfExpired n (laneEnters l n { v.laneRec l with stage := .restore, timer := none } r v))

/-- R63, R64: ALIGN is opened with what the part drives; on a FAULTED port the resends fail at once too, and the station
is stranded. -/
def sendsAlign (l : Fin 4) (n : Fin 16) (r : StationRec) (v : State) : State :=
  let o := openDialogue n .align (channelList v n) v
  if o.2 then strands l n { r with alignAttempts := 3 } .alignFailed o.1 else o.1

/-- R63: the entry into ALIGN. -/
def aligns (l : Fin 4) (n : Fin 16) (r : StationRec) (v : State) : State :=
  sendsAlign l n r (laneEnters l n { v.laneRec l with stage := .align, timer := none } r v)

/-- R64: an align attempt has failed: the count rises, and at 3 the station is stranded; below, ALIGN is sent again,
from ALIGN itself with no new entry. -/
def alignsAgain (l : Fin 4) (n : Fin 16) (r : StationRec) (v : State) : State :=
  if 2 ≤ r.alignAttempts then strands l n { r with alignAttempts := 3 } .alignFailed v
  else
    let r := { r with alignAttempts := r.alignAttempts + 1 }
    if (v.laneRec l).stage = .align then
      sendsAlign l n r { v with adm := { v.adm with stations := tset v.adm.stations n (some r) } }
    else aligns l n r v

/-- R70: a RELEASE has failed: it is sent three times in all, and then the station is DONE with release-unconfirmed; on
a FAULTED port the sends left fail at once. -/
def releasesAgain (l : Fin 4) (n : Fin 16) (r : StationRec) (v : State) : State :=
  if 3 ≤ (v.laneRec l).releaseSends then completes l n r true v
  else
    let o := openDialogue n .release [] { v with lane := { v.lane with
      lanes := tset v.lane.lanes l { v.laneRec l with releaseSends := (v.laneRec l).releaseSends + 1 } } }
    if o.2 then completes l n r true o.1 else o.1

/-- R75: what a lane makes of a dialogue of a kind that timed out or failed. -/
def afterFailure (k : DialogueKind) (l : Fin 4) (n : Fin 16) (p : StationPlan) (r : StationRec) (v : State) : State :=
  match k with
  | .freeze => rollsBack l n p r .noFreeze v
  | .thaw => rolledBack l n p r ((v.laneRec l).rollbackReason.getD .incident) v
  | .restore => restartsOrStrands l n p r .restoreTimeout v
  | .align => alignsAgain l n r v
  | .release => releasesAgain l n r v

/-- R118: `k` channels of a zone have left TRACK. -/
def tracksLeft (k : Nat) (r : ZoneRec) : ZoneRec :=
  if k = 0 then r
  else if r.trackCount ≤ k then { r with trackCount := 0, demand := none, target := none }
  else { r with trackCount := r.trackCount - k }

/-- R118: the channels of a list that stand in TRACK leave it, and the Regulator counts them by zone. -/
def tracksLeave (cs : List (Fin 32)) (v : State) : Regulator :=
  { v.reg with
    zones := tmap (fun z r =>
      tracksLeft (allChannels.filter fun c =>
        decide (c ∈ cs) && decide ((v.channel c).mode = .track) && v.zoneOf c == some z).length r) v.reg.zones }

/-- R111, R116: a zone record after the entry into TRACK of the channels of the zone that `enters` names: each is
counted, and the first at TRACK count 0 forms the blind flag and creates demand and target. -/
def tracksEnter (enters : Fin 32 → Bool) (s : State) (z : Fin 12) : ZoneRec :=
  let r := s.zoneRec z
  let k := (allChannels.filter fun c => enters c && s.zoneOf c == some z).length
  if k = 0 then r
  else if r.trackCount ≠ 0 then { r with trackCount := r.trackCount + k }
  else
    match s.zonePlan z with
    | some q => { blindRecord s z r with demand := some (demandOf s q), target := some (demandOf s q), trackCount := k }
    | none => { r with trackCount := k }

/-- R111, R116, R121: the NOTE_ZONEs of that entry: one for each zone whose blind flag or list changes at the creation
of its target, in the order of the channels that create them (log 22). -/
def enterNotes (enters : Fin 32 → Bool) (s : State) : List (Block × Notice) :=
  allChannels.filterMap fun c => (s.zoneOf c).bind fun z =>
    if enters c = true ∧ (s.zoneRec z).trackCount = 0 ∧ ∀ b < c, enters b = true → s.zoneOf b ≠ some z then
      blindNote s z
    else none

/-- R81: a channel record under the follow order. -/
def followRecord (r : Channel) : Channel :=
  if r.mode = .follow then r
  else { r with mode := .follow, relay := false, stage := false, target := none, reversal := .none, reversalSense := none,
                dwellUntil := none }

/-- R81, R118: the follow order for every bound channel of a station. -/
def follows (n : Fin 16) (v : State) : State :=
  { v with
    chan := { v.chan with channels := tmap (fun c r => if c ∈ v.bound n then followRecord r else r) v.chan.channels }
    reg := tracksLeave (v.bound n) v }

/-- R62, R82, R118: the TRACK channels of a station are put into HOLD at their driven levels. -/
def holdsInPlace (n : Fin 16) (v : State) : State :=
  { v with
    chan := { v.chan with
      channels := tmap (fun c r =>
        if c ∈ v.bound n ∧ r.mode = .track then { r with mode := .hold, target := some r.level } else r)
        v.chan.channels }
    reg := tracksLeave (v.bound n) v }

/-- R62: the entry into PREPARE, with its settled test. -/
def prepares (l : Fin 4) (n : Fin 16) (r : StationRec) (v : State) : State :=
  let w := holdsInPlace n (laneEnters l n { v.laneRec l with stage := .prepare, timer := none } r v)
  if ∀ c ∈ w.bound n, (w.channel c).target = some (w.channel c).level ∧ (w.channel c).reversal = .none then
    aligns l n r w
  else w

/-- R69: the entry into RELEASE at the third agreement in a row: follow orders, settle-until points, reservations,
hold-grace timer, RELEASE, and one pass; on a FAULTED port RELEASE fails at once, and its resends with it. -/
def releases (l : Fin 4) (n : Fin 16) (r : StationRec) (v : State) : State :=
  let w := follows n (laneEnters l n { v.laneRec l with
    stage := .release, timer := none, matchCount := 3, releaseSends := 1 } r v)
  let o := openDialogue n .release [] { w with
    lane := { w.lane with grace := tset w.lane.grace n .notStarted }
    adm := { w.adm with
      reserved := tmap (fun c b => b && decide (c ∉ v.bound n)) w.adm.reserved
      settle := tmap (fun z old =>
        match v.zonePlan z with
        | some q => if v.touches n z = true ∧ 0 < q.settleTime then some (v.now + q.settleTime * 16000000) else old
        | none => old) w.adm.settle } }
  if o.2 then completes l n r true (callPass o.1) else callPass o.1

/-- R84, R87, R90: the entry of a channel into INCIDENT: its incident level as target; a VENT channel whose required
sense differs from its driven sense starts a reversal, one in progress toward it goes on, one toward another sense ends.
-/
def incidentRecord (now dwell : Nat) (vent : Bool) (p : ChannelPlan) (r : Channel) : Channel :=
  let required : Sense := match p.incidentSense with
    | .forward => .forward
    | .reverse => .reverse
    | .keep => if r.reversal = .none then r.sense else r.reversalSense.getD r.sense
  let x := { r with mode := .incident, target := some p.incidentLevel }
  if vent = false then x
  else if r.reversal = .none then
    if required = r.sense then x
    else if r.level ≠ 0 then { x with reversal := .rundown, reversalSense := some required }
    else if dwell = 0 then { x with sense := required, reversalSense := none, dwellUntil := none }
    else { x with reversal := .dwell, reversalSense := some required, dwellUntil := some (now + dwell * 16000000) }
  else if r.reversalSense = some required then x
  else { x with reversal := .none, reversalSense := none, dwellUntil := none }

/-- R78, R84, R118: the incident order for the channels of a list. -/
def incidentTaken (cs : List (Fin 32)) (v : State) : State :=
  { v with
    chan := { v.chan with
      channels := tmap (fun c r =>
        match v.channelPlan c with
        | some p =>
          if c ∈ cs ∧ (r.mode = .hold ∨ r.mode = .track) then
            incidentRecord v.now (dwellTime v c) (decide (v.kind c = some .vent)) p r else r
        | none => r) v.chan.channels }
    reg := tracksLeave cs v }

/-- R71, R152: the dialogue of a station is abandoned, with a frame of it that still waits. -/
def abandons (n : Fin 16) (v : State) : State :=
  if (v.port n).dialogue = none then v
  else { v with ports := tset v.ports n { v.port n with dialogue := none, waiting := none } }

/-- R128 to R130: a lane takes the change to active. In CAPTURE it abandons FREEZE and enters ROLLBACK; in ALIGN or
MATCH it abandons ALIGN, its timer and its match count, gives its channels the incident order and enters PREPARE. -/
def meetsIncident (v : State) (l : Fin 4) : State :=
  match (v.laneRec l).station with
  | some n =>
    match v.station n, v.stationPlan n, (v.laneRec l).stage with
    | some r, some p, .capture => rollsBack l n p r .incident (abandons n v)
    | some r, some _, .align | some r, some _, .matching =>
      let w := abandons n v
      prepares l n r (incidentTaken (v.bound n) { w with
        lane := { w.lane with lanes := tset w.lane.lanes l { v.laneRec l with timer := none, matchCount := 0 } } })
    | _, _, _ => v
  | none => v

/-- R52, R82, R84: a bound channel at a capture: FOLLOW to HOLD at the measured level and sense, and under an active
condition on to INCIDENT. -/
def capturedRecord (v : State) (c : Fin 32) (r : Channel) : Channel :=
  let vent := decide (v.kind c = some .vent)
  let x := if r.mode = .follow then { r with
      mode := .hold, relay := true, stage := !r.overload, level := r.observedLevel
      sense := if vent then r.observedSense else .forward, target := some r.observedLevel } else r
  match v.channelPlan c with
  | some p =>
    if (v.inc.line || v.inc.hostFlag) = true ∧ (x.mode = .hold ∨ x.mode = .track) then
      incidentRecord v.now (dwellTime v c) vent p x
    else x
  | none => x

/-- R48, R52, R55: the capture passes: checkpoint, channels, hold-grace timer, and the entry into RESTART. -/
def captures (l : Fin 4) (n : Fin 16) (p : StationPlan) (r : StationRec) (z : Frozen) (v : State) : State :=
  restarts l n p { r with checkpoint := some { modeByte := z.modeByte, bytes := z.checkpoint } } { v with
    chan := { v.chan with
      channels := tmap (fun c x => if c ∈ v.bound n then capturedRecord v c x else x) v.chan.channels }
    lane := { v.lane with
      grace := tset v.lane.grace n (if p.holdGrace = 0 then .expired else .running (v.now + p.holdGrace * 16000000)) } }

/-- R41, R49: the record of a station whose entry is admitted. -/
def admittedRec (e : QueueEntry) (r : StationRec) : StationRec :=
  { r with state := .active, cls := e.cls, attempts := 0, alignAttempts := 0 }

/-- R49: the record of the lane that takes an admitted entry's station: WARM with a checkpoint held, else COLD. -/
def admittedLane (e : QueueEntry) (r : StationRec) : Lane :=
  { stage := .capture, station := some e.station, timer := none, matchCount := 0
    mode := if r.checkpoint = none then .cold else .warm, releaseSends := 0, seenReadyLow := false
    rollbackReason := none }

/-- R41, R49, R50: lane `l` takes the entry's station. An ordinary entry reserves the bound channels and opens FREEZE; a
pre-captured one, whose reservations stand, goes straight to RESTART. -/
def admits (l : Fin 4) (e : QueueEntry) (p : StationPlan) (r : StationRec) (v : State) : State :=
  let r' := admittedRec e r
  let x := admittedLane e r
  if e.preCaptured then
    restarts l e.station p r' { v with lane := { v.lane with lanes := tset v.lane.lanes l x } }
  else
    (openDialogue e.station .freeze [] (laneEnters l e.station x r' { v with adm := { v.adm with
      reserved := tmap (fun c b => b || decide (c ∈ v.bound e.station)) v.adm.reserved } })).1

/-- R49, R53: lane `l` takes the station of an ordinary entry while the incident condition is active: it enters CAPTURE
and in the same event ROLLBACK with reason INCIDENT (log 12); the reservations are released, and THAW is opened. The
pass that the release calls follows when the present one has ended (log 10). -/
def admitsToRollback (l : Fin 4) (e : QueueEntry) (r : StationRec) (v : State) : State :=
  let r' := admittedRec e r
  let x := admittedLane e r
  let w := laneEnters l e.station { x with stage := .rollback, rollbackReason := some .incident } r'
    (laneEnters l e.station x r' v)
  (openDialogue e.station .thaw [] { w with adm := { w.adm with
    reserved := tmap (fun c b => b && decide (c ∉ v.bound e.station)) w.adm.reserved } }).1

/-- R41, R49: lane `l` takes the station of an admitted entry. -/
def takesIn (l : Fin 4) (e : QueueEntry) (p : StationPlan) (r : StationRec) (v : State) : State :=
  if (v.inc.line || v.inc.hostFlag) = true ∧ e.preCaptured = false then admitsToRollback l e r v else admits l e p r v

/-- R35: the stations whose entries stand above a station's in rank order. -/
def rankedAbove (q : List QueueEntry) (n : Fin 16) : List (Fin 16) :=
  ((rankOrder q).takeWhile fun e => decide (e.station ≠ n)).map (·.station)

/-- R42: an entry is passed over once more, and pinned at the limit. -/
def overtaken (limit : Nat) (e : QueueEntry) : QueueEntry :=
  let k := min 15 (e.passOver + 1)
  { e with passOver := k, pinned := e.pinned || decide (limit ≤ k) }

/-- R39, R42: an entry that fails its tests in `s`: it takes the block reason of the first one it fails, and, with a
station admitted below it, is passed over once more when that is the cover test. -/
def blockedEntry (s : State) (below : Bool) (limit : Nat) (e : QueueEntry) : QueueEntry :=
  let b := entryTest s (rankedAbove s.adm.queue e.station) e
  let e := { e with block := b.getD e.block }
  if below = true ∧ b = some .cover then overtaken limit e else e

/-- R39, R42: the entries of a queue after a pass that admitted none of them. -/
def blocked (s : State) (q : List QueueEntry) (below : Bool) (limit : Nat) : List QueueEntry :=
  q.map (blockedEntry s below limit)

/-- R39 to R42: the entry of `y` is admitted from the queue of `v`: the entries that `above` names failed their tests
just before, and the others are left as they are. -/
def overtakes (v : State) (y : Fin 16) (above : List (Fin 16)) (limit : Nat) : List QueueEntry :=
  (v.adm.queue.filter fun e => decide (e.station ≠ y)).map fun e =>
    if e.station ∈ above then blockedEntry v true limit e else e

/-- R39, R41: `l` is the least FREE lane below lanes-in-use. -/
def leastFree (v : State) (l : Fin 4) : Prop :=
  (∃ p, v.adm.params = some p ∧ l.val < p.lanesInUse) ∧ (v.laneRec l).stage = .free ∧
    ∀ k < l, (v.laneRec k).stage ≠ .free

/-- R39 to R42: within a pass, the entries `failing` fail their tests in `v`, and the entry `y` ranked below them passes
its own and is admitted, which leaves `t`. The entries that failed the cover test are passed over once more: those of
`failing`, and those that `earlier` names, which failed it before in the same pass. -/
def admission (limit : Nat) (earlier : List (Fin 16)) (failing : List QueueEntry) (y : QueueEntry) (v t : State) : Prop :=
  (∀ e ∈ failing, entryTest v (rankedAbove v.adm.queue e.station) e ≠ none) ∧
  entryTest v (rankedAbove v.adm.queue y.station) y = none ∧
  ∃ l r p, leastFree v l ∧ v.station y.station = some r ∧ v.stationPlan y.station = some p ∧
    t = takesIn l y p r { v with adm := { v.adm with
      queue := (overtakes v y.station (failing.map (·.station)) limit).map fun e =>
        if e.station ∈ earlier then overtaken limit e else e } }

/-- R39 to R42: one pass, from `v` to `t`. Each of `admitted` is an entry taken in, after the entries ranked between the
one before it and itself, which fail; `rest` are the entries below the last of them. With no lane FREE they are left
untested, and otherwise each fails, and takes its block reason. -/
def passRuns (limit : Nat) (rest : List QueueEntry) (t : State) :
    List (Fin 16) → List (List QueueEntry × QueueEntry) → State → Prop
  | _, [], v =>
    ((∀ l, ¬leastFree v l) ∧ t = v) ∨
      ((∃ l, leastFree v l) ∧ (∀ e ∈ rest, entryTest v (rankedAbove v.adm.queue e.station) e ≠ none) ∧
        t = { v with adm := { v.adm with queue := v.adm.queue.map fun e =>
          if e.station ∈ (rest.map fun x => x.station) then blockedEntry v false limit e else e } })
  | earlier, (failing, y) :: more, v =>
    ∃ u, admission limit earlier failing y v u ∧
      passRuns limit rest t
        (earlier ++ (failing.filter fun e =>
          decide (entryTest v (rankedAbove v.adm.queue e.station) e = some .cover)).map (·.station)) more u

/-- R62: no lane in PREPARE holds a station whose port is FAULTED, so that none of them can be stranded by its test. -/
def preparesOnline (v : State) : Prop :=
  ∀ l n, (v.laneRec l).stage = .prepare → (v.laneRec l).station = some n →
    (v.port n).faulted = false ∧ v.laneOf n = some l ∧ v.station n ≠ none

/-! ### The channels -/

/-- R76, R77: a channel record between events. -/
structure ChannelInv (r : Channel) : Prop where
  relay : r.relay = true ↔ r.mode ≠ .follow
  stage : r.stage = true ↔ r.mode ≠ .follow ∧ r.overload = false
  follow : r.mode = .follow → r.target = none ∧ r.reversal = .none
  sense : r.reversal = .none ↔ r.reversalSense = none
  dwell : r.reversal = .dwell ↔ r.dwellUntil ≠ none
  observed : r.observedLevel ≤ 1000
  current : r.loadCurrent ≤ 600

/-- Every channel record. -/
def ChannelsInv (s : State) : Prop := ∀ c, ChannelInv (s.channel c)

/-- R79, R82 to R85, R109, R116 to R119: the zone records and the channels between events: each zone counts its channels
in TRACK, and holds demand and target exactly while there are any; each of them aims at the zone's target, clamped; a
channel has a target exactly outside FOLLOW; levels and demands lie in 0..1000. -/
structure RegulatorInv (s : State) : Prop where
  count : ∀ z, (s.zoneRec z).trackCount =
    (Finset.univ.filter fun c => (s.channel c).mode = .track ∧ s.zoneOf c = some z).card
  target : ∀ z, (s.zoneRec z).target ≠ none ↔ 0 < (s.zoneRec z).trackCount
  demand : ∀ z, (s.zoneRec z).demand ≠ none ↔ 0 < (s.zoneRec z).trackCount
  ranges : ∀ z, (∀ d ∈ (s.zoneRec z).target, d ≤ 1000) ∧ ∀ d ∈ (s.zoneRec z).demand, d ≤ 1000
  driven : ∀ c, (s.channel c).target ≠ none ↔ (s.channel c).mode ≠ .follow
  levels : ∀ c, (s.channel c).level ≤ 1000 ∧ (s.channel c).observedLevel ≤ 1000 ∧ ∀ x ∈ (s.channel c).target, x ≤ 1000
  tracks : ∀ c p, s.channelPlan c = some p → (s.channel c).mode = .track →
    (s.channel c).target = (s.zoneRec p.zone).target.map fun d => max p.minLevel (min p.maxLevel d)

/-! ### The Time Base -/

/-- R155: the Time Base record between events. -/
structure TimeInv (b : TimeBase) : Prop where
  samples : b.samples.length ≤ 8
  window : ∀ x ∈ b.samples, 15992000 ≤ x ∧ x ≤ 16008000
  rate : b.rateP = if b.samples = [] then 16000000 else b.samples.sum / b.samples.length
  time : (b.state = .unset ↔ b.day = none) ∧ (b.day = none ↔ b.second = none)
  ranges : (∀ d ∈ b.day, d < 65536) ∧ (∀ x ∈ b.second, x < 86400) ∧ ∀ m ∈ b.mark, m.1 < 65536 ∧ m.2 < 86400
  last : b.state ≠ .unset → b.last ≠ none
  full : (b.state = .fine → b.samples.length = 8) ∧ (b.state = .coarse → b.samples.length < 8)
  watchdog : b.watchdog ≠ none ↔ b.state = .coarse ∨ b.state = .fine
  holdover : (b.holdover ≠ none ↔ b.state = .holdover) ∧ (b.nextGenerated ≠ none ↔ b.state = .holdover)
  glitches : b.glitches ≤ 65535

/-! ### The sensor scan -/

/-- R98: the scan configuration and state between events. -/
structure ScanInv (u : ScanUnit) : Prop where
  trigger : u.config.mode = .cyclic ↔ u.config.trigger ≠ .request
  ranges : 100 ≤ u.config.period ∧ u.config.period ≤ 5000 ∧ 1 ≤ u.config.count ∧ u.config.count ≤ 8
  timer : u.timer ≠ none ↔ u.config.mode = .cyclic ∧ u.config.trigger = .period
  idle : u.scanning = false → u.index = 0 ∧ u.conversionEnd = none
  busy : u.scanning = true → u.conversionEnd ≠ none

/-- R100: at the instant `now` a sequence goes on at the least convertible input from a number on and below the count,
whose conversion takes 2 ms; with none left it is complete. `u` is the scan before. -/
def scanGoesOn (now from_ : Nat) (u : ScanUnit) (s t : State) : Prop :=
  (∀ i : Fin 8, from_ ≤ i.val → i.val < s.scan.config.count →
    (∃ p, s.sensorPlan i = some p ∧ p.kind ≠ .unused) →
    (∀ j : Fin 8, from_ ≤ j.val → j < i → ∀ p, s.sensorPlan j = some p → p.kind = .unused) →
    t.scan = { u with scanning := true, index := i, conversionEnd := some (now + 32000), discard := false }) ∧
  ((∀ i : Fin 8, from_ ≤ i.val → i.val < s.scan.config.count → ∀ p, s.sensorPlan i = some p → p.kind = .unused) →
    t.scan = { u with scanning := false, index := 0, conversionEnd := none, discard := false })

/-- R102: a second boundary whose other effects are those of `v` ends its event in `t`, after it has reached the Sensor Scan
Unit: in CYCLIC mode with trigger MARK it starts a sequence when the scan is IDLE, and it is skipped otherwise. -/
def markTaken (v t : State) : Prop :=
  t = finish { v with scan := t.scan } ∧
  ((v.scan.config.mode ≠ .cyclic ∨ v.scan.config.trigger ≠ .mark ∨ v.scan.scanning = true) → t.scan = v.scan) ∧
  (v.scan.config.mode = .cyclic → v.scan.config.trigger = .mark → v.scan.scanning = false →
    scanGoesOn v.now 0 v.scan v t)

/-- R38: a second of day in the campaign window, which holds its start and not its end, runs over midnight when its end
is below its start, and is always open when they are equal. -/
def inWindow (p : CampaignParams) (x : Nat) : Prop :=
  (p.windowStart < p.windowEnd → p.windowStart ≤ x ∧ x < p.windowEnd) ∧
    (p.windowEnd < p.windowStart → p.windowStart ≤ x ∨ x < p.windowEnd)

/-- R37, R38, R169: the second that the Time Base hands over in `v`, whose time record was `old`, calls a pass: time is
kept from now on, or the campaign window opens. -/
def secondCalls (old : TimeBase) (v : State) : Prop :=
  (old.state = .unset ∧ v.time.state ≠ .unset) ∨
    ∃ p a b, v.adm.params = some p ∧ old.second = some a ∧ v.time.second = some b ∧ ¬inWindow p a ∧ inWindow p b

/-- R37, R102, R169: a second boundary, its record and notice stored in `v`, reaches the Admission Unit, with one pass
where the second calls one (log 21), and the Sensor Scan Unit. -/
def secondHanded (old : TimeBase) (v t : State) : Prop :=
  (secondCalls old v → markTaken (callPass v) t) ∧ (¬secondCalls old v → markTaken v t)

/-! ### The plan -/

/-- R4, R5: a stored station record. -/
structure StationPlanInv (r : StationPlan) : Prop where
  rate : 300 ≤ r.bitRate ∧ r.bitRate ≤ 115200 ∧ divisorError r.bitRate ≤ 20000
  pulse : 100 ≤ r.restartPulse ∧ r.restartPulse ≤ 2000
  boot : 5 ≤ r.bootTimeout ∧ r.bootTimeout ≤ 900
  dialogue : 100 ≤ r.dialogueTimeout ∧ r.dialogueTimeout ≤ 5000
  align : 1 ≤ r.alignTimeout ∧ r.alignTimeout ≤ 60
  others : r.captureTolerance ≤ 100 ∧ r.handbackTolerance ≤ 50 ∧ r.holdGrace ≤ 600 ∧ r.retryLimit ≤ 3

/-- R8: a stored law. -/
def LawInv : ZoneKind → Law → Prop
  | _, .none => True
  | .light, .light _ k lfull => 1 ≤ k ∧ k ≤ 1000 ∧ 1 ≤ lfull ∧ lfull ≤ 2000
  | .vent, .vent co coLow coHigh ext extLow extHigh =>
    (co ≠ none ∨ ext ≠ none) ∧ (co ≠ none → coLow < coHigh ∧ coHigh ≤ 500) ∧ (co = none → coLow = 0 ∧ coHigh = 0) ∧
      (ext ≠ none → extLow < extHigh ∧ extHigh ≤ 20000) ∧ (ext = none → extLow = 0 ∧ extHigh = 0)
  | _, _ => False

/-- R4, R7, R8: a stored zone record. -/
structure ZonePlanInv (r : ZonePlan) : Prop where
  ranges : r.holdLimit ≤ 1000 ∧ r.settleTime ≤ 3600 ∧ r.dwell ≤ 120 ∧ r.deadBand ≤ 100 ∧ r.baseLevel ≤ 1000 ∧
    r.blindLevel ≤ 1000
  dwell : r.kind = .light → r.dwell = 0
  law : LawInv r.kind r.law

/-- R4, R9: a stored channel record. -/
structure ChannelPlanInv (r : ChannelPlan) : Prop where
  capacity : 1 ≤ r.capacity ∧ r.capacity ≤ 1000
  levels : r.minLevel ≤ r.maxLevel ∧ r.maxLevel ≤ 1000 ∧ r.incidentLevel ≤ 1000
  steps : 1 ≤ r.rampUp ∧ r.rampUp ≤ 1000 ∧ 1 ≤ r.rampDown ∧ r.rampDown ≤ 1000 ∧ 1 ≤ r.incidentRamp ∧
    r.incidentRamp ≤ 1000
  deglitch : r.deglitch ∈ [10, 20, 50, 100]

/-- R4, R11: a stored sensor record. -/
def SensorPlanInv (r : SensorPlan) : Prop :=
  if r.kind = .unused then
    r.rawBroken = 0 ∧ r.rawLo = 0 ∧ r.rawHi = 0 ∧ r.valueLo = 0 ∧ r.valueHi = 0 ∧ r.shift = 0
  else
    r.rawBroken < r.rawLo ∧ r.rawLo < r.rawHi ∧ r.rawHi ≤ 4095 ∧ r.valueLo < r.valueHi ∧
      r.valueHi ≤ (if r.kind = .co then 500 else 20000) ∧ r.shift ≤ 4

/-- R1, R2, R7, R10: the Plan Store between events: every stored record in its ranges, the derived values of a plan that
passes the check held exactly while READY, nothing stored while EMPTY, and no channel of a LIGHT zone with a sense other
than KEEP. -/
structure PlanInv (p : PlanStore) : Prop where
  stations : ∀ n, ∀ r ∈ tget p.stations n, StationPlanInv r
  zones : ∀ z, ∀ r ∈ tget p.zones z, ZonePlanInv r
  channels : ∀ c, ∀ r ∈ tget p.channels c, ChannelPlanInv r
  sensors : ∀ i, ∀ r ∈ tget p.sensors i, SensorPlanInv r
  held : p.state ≠ .ready → p.derived = none
  ready : p.state = .ready → firstFailure p = none ∧ p.derived = some (derive_ p)
  empty : p.state = .empty → (∀ n, tget p.stations n = none) ∧ (∀ z, tget p.zones z = none) ∧
    (∀ c, tget p.channels c = none) ∧ ∀ i, tget p.sensors i = none
  senses : ∀ c, ∀ r ∈ tget p.channels c, ∀ z ∈ tget p.zones r.zone, z.kind = .light → r.incidentSense = .keep

/-! ### The restart -/

/-- R48: the dialogue that is outstanding in a stage. -/
def stageDialogue : Stage → Option DialogueKind
  | .capture => some .freeze
  | .rollback => some .thaw
  | .restore => some .restore
  | .align => some .align
  | .release => some .release
  | _ => none

/-- Station `n` holds its reservations: it is STRANDED, or its lane is in a stage between admission and release (R36).
-/
def holdsChannels (s : State) (n : Fin 16) : Prop :=
  s.stationState n = some .stranded ∨ ∃ l, (s.laneRec l).station = some n ∧
    (s.laneRec l).stage ∉ [.free, .rollback, .release]

/-- R19 to R74: the campaign, the stations, the queue, the lanes and the reservations between events. -/
structure RestartInv (s : State) : Prop where
  /-- R28: a station has a record exactly while its slot is defined. -/
  defined : ∀ n, s.station n = none ↔ s.stationPlan n = none
  /-- R34: one entry for a station; an ordinary entry's station is QUEUED, a pre-captured entry's is STRANDED. -/
  entries : (s.adm.queue.map (·.station)).Nodup ∧
    ∀ e ∈ s.adm.queue, s.stationState e.station = some (if e.preCaptured then .stranded else .queued)
  queued : ∀ n, s.stationState n = some .queued → ∃ e ∈ s.adm.queue, e.station = n
  /-- R45: a lane holds a station exactly outside FREE, and no two lanes hold one. -/
  free : ∀ l, (s.laneRec l).stage = .free ↔ (s.laneRec l).station = none
  apart : ∀ l k n, (s.laneRec l).station = some n → (s.laneRec k).station = some n → l = k
  /-- R28: a station is ACTIVE exactly while a lane holds it. -/
  active : ∀ n, s.stationState n = some .active ↔ ∃ l, (s.laneRec l).station = some n
  /-- R41: lanes are filled below lanes-in-use. -/
  lanes : ∀ l, (s.laneRec l).stage ≠ .free → ∃ p, s.adm.params = some p ∧ l.val < p.lanesInUse
  /-- R45: the stage timer runs exactly in RESTART, BOOT and MATCH. -/
  timers : ∀ l, (s.laneRec l).timer ≠ none ↔ (s.laneRec l).stage ∈ [.restart, .boot, .matching]
  /-- R19, R26: parameters are held outside IDLE; in IDLE and ENDED nothing waits and no lane is filled. -/
  params : s.adm.params = none ↔ s.adm.campaign = .idle
  ranges : ∀ p ∈ s.adm.params, 1 ≤ p.lanesInUse ∧ p.lanesInUse ≤ 4 ∧ 1 ≤ p.passOverLimit ∧ p.passOverLimit ≤ 15
  quiet : (s.adm.campaign = .idle ∨ s.adm.campaign = .ended) →
    s.adm.queue = [] ∧ ∀ l, (s.laneRec l).stage = .free
  /-- R3: a campaign, and a STRANDED station, hold the plan READY. -/
  plan : (s.adm.campaign ≠ .idle ∨ ∃ n, s.stationState n = some .stranded) → s.plan.state = .ready
  /-- R36: a channel out of FOLLOW is reserved; the reserved channels are the bound channels of the stations that hold them. -/
  reserved : ∀ c, (s.channel c).mode ≠ .follow → tget s.adm.reserved c = true
  held : ∀ c, tget s.adm.reserved c = true ↔ ∃ n, c ∈ s.bound n ∧ holdsChannels s n
  /-- R52, R53, R69: in CAPTURE, ROLLBACK and RELEASE the station drives its channels itself. -/
  follow : ∀ l n, (s.laneRec l).station = some n → (s.laneRec l).stage ∈ [.capture, .rollback, .release] →
    ∀ c ∈ s.bound n, (s.channel c).mode = .follow
  /-- R40: the cover inequality of every zone. -/
  cover : ∀ z p, s.zonePlan z = some p → 1000 * reservedCapacity s z ≤ p.holdLimit * s.total z
  /-- R29, R58, R64: the counts of a station. -/
  attempts : ∀ l n r p, (s.laneRec l).station = some n → s.station n = some r → s.stationPlan n = some p →
    r.attempts ≤ p.retryLimit + 1
  counts : ∀ n, ∀ r ∈ s.station n, r.alignAttempts ≤ 3 ∧ r.captureFailures ≤ 4
  /-- R55: the restart line is asserted exactly in RESTART. -/
  line : ∀ n, tget s.lane.restartLine n = true ↔ s.stageOf n = some .restart
  /-- R50, R53, R59, R63, R69, R146: the dialogue outstanding on a port is that of its station's stage. -/
  dialogue : ∀ n, (s.port n).dialogue.map (·.kind) = (s.stageOf n).bind stageDialogue

/-- R137 to R147: a port record between events. -/
structure PortInv (p : Port) : Prop where
  counters : p.parity ≤ 255 ∧ p.framing ≤ 255 ∧ p.bad ≤ 255 ∧ p.unexpected ≤ 255 ∧ p.late ≤ 255 ∧ p.timeouts ≤ 255
  consecutive : p.consecutive ≤ 8 ∧ (p.consecutive = 8 → p.faulted = true)
  faulted : p.faulted = true → p.dialogue = none ∧ p.waiting = none
  rate : p.divisor = p.rate.map fun r => (16000000 + 8 * r) / (16 * r)
  rx : p.rx ≠ none → p.rate ≠ none
  waiting : p.waiting ≠ none → p.sending ≠ none
  sending : ∀ d ∈ p.dialogue, d.transmit = .sending → p.sending ≠ none
  timer : ∀ d ∈ p.dialogue, d.timer ≠ none ↔ d.transmit = .sent

/-- Every port record. -/
def PortsInv (s : State) : Prop := ∀ n, PortInv (s.port n)

end Sys2Proof.Machine
end

