-- ==== Sys2Proof/WellFormed.lean ====
section
/-! DEFINITION. Which commands are well formed: the operands lie in the ranges the link formats allow (R141, R173, R188).
`exec` has a meaning for the others too. -/

namespace Sys2Proof

/-- R173: a host frame's body has at most 512 characters. -/
def hostBodyFits (body : List Byte) : Bool := decide (body.length ≤ 512)

/-- R141: a field frame's body has at most 250 characters. -/
def fieldBodyFits (body : List Byte) : Bool := decide (body.length ≤ 250)

/-- R188: the request kinds. -/
def requestKinds : List Nat :=
  [0x01, 0x02, 0x03, 0x04, 0x05, 0x06, 0x07] ++ [0x10, 0x11, 0x12, 0x13, 0x14, 0x15, 0x16] ++ [0x18, 0x19] ++
    [0x20, 0x21, 0x22, 0x23, 0x24, 0x25, 0x26, 0x27, 0x28] ++
    [0x30, 0x31, 0x32, 0x33, 0x34, 0x35, 0x36, 0x37, 0x38]

/-- A well-formed command. -/
def Instr.wf : Instr → Bool
  | .hostFrameTaken f => hostBodyFits f.body
  | .unknownKindRequest kind _ body => hostBodyFits body && !(requestKinds.contains kind.toNat)
  | .planClear _ b | .planStation _ b | .planZone _ b | .planChannel _ b | .planSensor _ b | .planCheck _ b
  | .readPlan _ b | .campaignOpen _ b | .campaignAdd _ b | .campaignCancel _ b | .campaignHalt _ b
  | .campaignResume _ b | .campaignAbort _ b | .campaignClose _ b | .stationRetry _ b | .stationRelease _ b
  | .readStatus _ b | .readStation _ b | .readZone _ b | .readChannel _ b | .readQueue _ b | .readLane _ b
  | .readSensor _ b | .readTime _ b | .readPort _ b | .scanConfig _ b | .sensorScan _ b | .timeMark _ b
  | .incidentDeclare _ b | .incidentClear _ b | .channelClearFault _ b _ | .portReset _ b | .noticeEnable _ b =>
    hostBodyFits b
  | .fieldFrameTaken _ f => fieldBodyFits f.body
  | .powerOn _ | .resetLine _ | .hostFrameAbandoned _ | .resetCampaign _ | .resetFull _ | .replySent _ | .noticeSent
  | .settlePointExpiry _ | .restartPulseEnd _ | .bootTimerExpiry _ | .readyRise _ | .readyFall _
  | .alignTimerExpiry _ | .holdGraceExpiry _ | .measurementComplete _ _ _ | .regulationBoundaryRamp
  | .regulationBoundaryZones | .dwellEnd _ | .overloadLatched _ | .openFlagSet _ | .openFlagCleared _
  | .scanPeriodExpiry | .conversionComplete _ | .inputStale _ | .incidentLineChange | .incidentActiveAdmission
  | .incidentActiveLanes | .incidentActiveChannels | .incidentInactiveAdmission | .incidentInactiveLanes
  | .incidentInactiveChannels | .fieldCharacterReceived _ _ | .fieldFrameAbandoned _ _ | .fieldFrameSent _
  | .dialogueTimeout _ | .secondMarkPulse _ | .markWatchdogExpiry | .generatedBoundary | .holdoverExpiry
  | .hostCharacterReceived _ => true

end Sys2Proof
end

