-- ==== Sys2Proof/Certificates/Slice0/Obligations.lean ====
section
/-! DEFINITION. The statements about the WS216, from the numbered rules of its specification. -/

open Sys2Proof Sys2Proof.Machine

/-! ### The machine as a whole -/

/-- A step takes the command at the front of the queue and runs it, whole, on the state with the rest of the queue. -/
def Obligations.StepTakesFrontCommand : Prop :=
  ∀ (c : Instr) (rest : List Instr) (s : State),
    step { s with pending := c :: rest } = exec c { s with pending := rest }

/-- With no command waiting (the model's choice, logs 4 and 33): when no event of the part's own is due, one tick of
local time passes, and each deglitch count goes on or starts again; one that is due joins the queue; of several, one of
them does, and a free value is used. R43, R45, R47, R48, R79, R85, R88, R93, R95, R100, R102, R107, R110, R123, R141,
R147, R150, R165 to R168, R173: which events are due: a timer, a period or a conversion that has run out (log 3), a gap
of 20 ms inside a frame (log 25), a ready line 20 ms and the incident line 50 ms at the opposite level, a fault
condition held for the channel's deglitch time (by the load current told last, log 2; its progress by log 20), an input
older than the stale limit (log 30), and a change of the incident condition that a block has still to take (log 8). -/
def Obligations.IdleStepWaitsOrQueuesAnEvent : Prop :=
  (∀ (s : State) (c : Instr), c ∈ dueEvents s ↔ due s c) ∧
  ∀ s : State, s.pending = [] →
    (dueEvents s = [] →
      ∃ t, step s = .next t ∧ t.now = s.now + 1 ∧ keepsBut [.now, .chan, .lane, .inc] s t ∧
        t.chan.nextMeasure = s.chan.nextMeasure ∧ t.chan.nextRamp = s.chan.nextRamp ∧ t.lane.lanes = s.lane.lanes ∧
        t.lane.ready = s.lane.ready ∧ t.lane.restartLine = s.lane.restartLine ∧ t.lane.grace = s.lane.grace ∧
        t.inc.line = s.inc.line ∧ t.inc.hostFlag = s.inc.hostFlag ∧ t.inc.toAdmission = s.inc.toAdmission ∧
        t.inc.toLanes = s.inc.toLanes ∧ t.inc.toChannels = s.inc.toChannels ∧ Deglitched s t ∧
        ∀ c, t.channel c = { s.channel c with
          overloadProgress := (t.channel c).overloadProgress, openProgress := (t.channel c).openProgress }) ∧
    (∀ c, dueEvents s = [c] → ∃ t, step s = .next t ∧ t.pending = [c] ∧ keepsBut [.pending] s t) ∧
    (2 ≤ (dueEvents s).length →
      ∃ c ∈ dueEvents s, ∃ t, step s = .next t ∧ t.pending = [c] ∧ t.free = s.free + 1 ∧ keepsBut [.pending, .free] s t)

/-- Every command, in every state, answers a next state: its event is taken whole, its notices have reached the queue,
an idle transmitter has chosen, and the commands that wait are as they were. R178, R179, at the end of an event: its
notices are taken in an order that keeps each block's own (the order among blocks is a free value, log 7), then an idle
transmitter chooses; the Interface takes a notice of an enabled kind while fewer than 32 wait, sets notices-lost when 32
wait, and drops a kind that is not enabled. -/
def Obligations.EveryCommandEndsItsEvent : Prop :=
  (∀ (c : Instr) (s : State),
     ∃ t, exec c s = .next t ∧ t.outbox = [] ∧ (t.link.tx = .idle → t.link.slot = none ∧ t.link.notices = []) ∧
       t.pending = s.pending) ∧
  (∀ s : State, ∃ o : List (Block × Notice),
     o.Perm s.outbox ∧ (∀ b, (o.filter fun e => decide (e.1 = b)) = s.outbox.filter fun e => decide (e.1 = b)) ∧
       (finish s).link = choose ((o.map fun e => e.2).foldl takeNotice s.link) ∧ (finish s).outbox = [] ∧
       keepsBut [.link, .outbox, .free] s (finish s)) ∧
  ∀ (k : HostLink) (n : Notice),
    (k.enable.getLsbD (noticeIndex n) = false → takeNotice k n = k) ∧
    (k.enable.getLsbD (noticeIndex n) = true → k.notices.length < 32 →
      takeNotice k n = { k with notices := k.notices ++ [n] }) ∧
    (k.enable.getLsbD (noticeIndex n) = true → 32 ≤ k.notices.length → takeNotice k n = { k with lost := true })

/-- The state after power-on, with every line low, meets every invariant stated below. -/
def Obligations.ResetMeetsTheInvariants : Prop :=
  LinkInv State.reset.link ∧ PortsInv State.reset ∧ ChannelsInv State.reset ∧ RegulatorInv State.reset ∧
    TimeInv State.reset.time ∧ ScanInv State.reset.scan ∧ PlanInv State.reset.plan ∧ RestartInv State.reset

/-- POWER_ON, the reset line, and the end of the reply while a RESET FULL is pending return every block to its values
after power-on: the plan with no derived values, the measurement and regulation periods restarted, no change of the
condition still to be taken; the straps select the rate, and each deglitched ready state takes its line's level. Local
time is counted from the reset (log 3), and the commands that wait stay (log 23). -/
def Obligations.FullResetsReturnEveryBlock : Prop :=
  ∀ (pins : Inputs) (s : State), ∃ t,
    exec (.powerOn pins) s = .next t ∧ exec (.resetLine pins) s = .next t ∧
    (s.link.tx = .reply → s.link.resetPending = true → exec (.replySent pins) s = .next t) ∧
    t.plan = { state := .empty, stations := tfill 16 none, zones := tfill 12 none, channels := tfill 32 none
               sensors := tfill 8 none, derived := none } ∧
    t.adm = { campaign := .idle, params := none, stations := tfill 16 none, queue := [], reserved := tfill 32 false
              settle := tfill 12 none } ∧
    (∀ l, t.laneRec l = { stage := .free, station := none, timer := none, matchCount := 0, mode := .cold
                          releaseSends := 0, seenReadyLow := false, rollbackReason := none }) ∧
    t.lane.restartLine = tfill 16 false ∧ t.lane.ready = pins.ready ∧ t.lane.readyCount = tfill 16 0 ∧
    (∀ n, t.grace n = .notStarted) ∧
    (∀ c, t.channel c = { mode := .follow, relay := false, stage := false, level := 0, sense := .forward
                          target := none, reversal := .none, reversalSense := none, dwellUntil := none
                          observedLevel := 0, observedSense := .forward, loadCurrent := 0, overload := false
                          openFlag := false, overloadProgress := 0, openProgress := 0 }) ∧
    t.chan.nextMeasure = 1600000 ∧ t.chan.nextRamp = 16000000 ∧ t.reg.nextZones = 16000000 ∧
    t.scan = { config := { mode := .cyclic, trigger := .period, period := 1000, count := 8, single := 0 },
               scanning := false, index := 0, timer := some 16000000, conversionEnd := none, discard := false,
               inputs := tfill 8 InputRec.fresh } ∧
    (∀ z, t.zoneRec z = { blind := false, blindInputs := [], demand := none, target := none, trackCount := 0 }) ∧
    t.inc = { line := false, lineCount := 0, hostFlag := false, toAdmission := [], toLanes := [], toChannels := [] } ∧
    (∀ n, t.port n = Port.fresh) ∧ t.time = TimeBase.fresh ∧
    t.link = { rate := t.link.rate, divisor := t.link.divisor, rx := none, queue := [], slot := none,
               resetPending := false, tx := .idle, notices := [], enable := 127, lost := false, parity := 0,
               framing := 0, crc := 0, length := 0, overrun := 0 } ∧
    (t.link.rate, t.link.divisor) =
      (match pins.strap1, pins.strap0 with
        | false, false => (9600, 104)
        | false, true => (19200, 52)
        | true, false => (38400, 26)
        | true, true => (76800, 13)) ∧
    t.now = 0 ∧ t.pins = pins ∧ t.outbox = [] ∧ t.free = s.free ∧ t.pending = s.pending

/-! ### The host link -/

/-- R174, R175: a frame taken from the host that is not good raises exactly one of the parity, framing and CRC
counters, the first that applies; a good one joins the receive queue behind others, or alone while the slot holds a
reply or a full reset is pending; with four waiting it is lost to overrun. -/
def Obligations.HostFramesAreCountedOrQueued : Prop :=
  ∀ (f : HostFrame) (s : State), f.body.length ≤ 512 →
    ∃ t, exec (.hostFrameTaken f) s = .next t ∧
      (f.parityError = true →
        t.link.core = { s.link with rx := none, parity := min 65535 (s.link.parity + 1) }.core) ∧
      (f.parityError = false → f.framingError = true →
        t.link.core = { s.link with rx := none, framing := min 65535 (s.link.framing + 1) }.core) ∧
      (f.parityError = false → f.framingError = false → crc (hostCovered f.kind f.tag f.body) ≠ f.crc →
        t.link.core = { s.link with rx := none, crc := min 65535 (s.link.crc + 1) }.core) ∧
      (goodHostFrame f → s.link.queue.length < 4 →
        (s.link.queue ≠ [] ∨ s.link.slot ≠ none ∨ s.link.resetPending = true) →
        t.link.core = { s.link with
          rx := none, queue := s.link.queue ++ [Request.mk f.kind f.tag f.body] }.core) ∧
      (goodHostFrame f → 4 ≤ s.link.queue.length →
        t.link.core = { s.link with rx := none, overrun := min 65535 (s.link.overrun + 1) }.core) ∧
      ((goodHostFrame f → s.link.queue ≠ [] ∨ s.link.slot ≠ none ∨ s.link.resetPending = true) →
        keepsBut [.link, .outbox, .free] s t)

/-- The model's reading of the request rows (log 5, DEDUCED): each is the arrival of a good frame of its kind. With the
receiver in HUNT, taking the frame is the request's own row, whatever the queue and the slot hold (R176, R188); kinds
outside R188 go to UNKNOWN_KIND_REQUEST. A good frame of kind 0x38 that is dispatched at once is answered BAD_FIELD for
a scope other than 0 and 1, and BAD_LENGTH for a body of another length than 1; the table has no row for these two. -/
def Obligations.HostFrameIsTheRequestOfItsKind : Prop :=
  ∀ (f : HostFrame) (i : Instr) (s : State), goodHostFrame f → s.link.rx = none →
    (requestRow s.pins f.kind f.tag f.body = some i → exec (.hostFrameTaken f) s = exec i s) ∧
    (f.kind = 0x38 → linkReady s →
      (∀ x : Byte, f.body = [x] → 2 ≤ x.toNat →
        exec (.hostFrameTaken f) s = .next (answeredWith 0x38 f.tag .badField .none s)) ∧
      (f.body.length ≠ 1 → exec (.hostFrameTaken f) s = .next (answeredWith 0x38 f.tag .badLength .none s)))

/-- R177: a refused request changes no state in any block. Whatever frame is taken and dispatched at once, if its
reply carries a status other than OK, then only the reply slot changes, and the notices that were waiting may go on. -/
def Obligations.RefusedRequestChangesNothing : Prop :=
  ∀ (f : HostFrame) (s : State), goodHostFrame f → linkReady s → PlanInv s.plan →
    ∃ t r, exec (.hostFrameTaken f) s = .next t ∧ t.link.slot = some r ∧
      (r.status ≠ .ok →
        keepsBut [.link, .outbox, .free] s t ∧ t.link.core = { s.link with rx := none, slot := some r }.core)

/-- R173, R188, characters and frames agree (the frame row stands for its characters: log 6, DEDUCED): the characters of
a host frame of any kind, tag, body and CRC, received without errors by a receiver in HUNT, are the frame taken with
those fields. -/
def Obligations.HostCharactersMakeTheFrame : Prop :=
  ∀ (kind tag : Byte) (body : List Byte) (r : Word16) (s : State), body.length ≤ 512 → s.link.rx = none →
    s.outbox = [] → s.link.settled →
    runAll ((0xA5 :: hostCovered kind tag body ++ crcBytes r).map fun b => .hostCharacterReceived (.clean b)) s =
      runAll [.hostFrameTaken { kind := kind, tag := tag, body := body, crc := r }] s

/-- R138, R140, R172: the eleven bits of a character are a start bit, the data bits least significant first, the
even-parity bit and a stop bit; read back, they give the character without errors, and one wrong bit among the data and
parity bits is a parity error. R173, R174: one character on the host line: in HUNT a start character without errors
begins a frame and any other character changes nothing of the link; each character of the frame after it is kept, and an
error in any of them is kept with it; a length below 2 or above 514 abandons the frame at its second character, and the
second CRC character takes the frame, as one with a parity or a framing error when any of its characters had one. An
abandoned frame raises the length counter and leaves the receiver in HUNT; a gap ends 20 ms after the latest character,
and in HUNT it changes nothing (log 26, DESIGN CHOICE). A character whose start bit comes more than 20 ms after the
latest character finds the frame abandoned (log 25). The length cause stands for the frame from its start character on
(log 6). -/
def Obligations.HostCharactersAndAbandonedFrames : Prop :=
  ((∀ b : Byte, (charBits b).length = 11 ∧ (charBits b)[0]? = some false ∧ (charBits b)[10]? = some true ∧
      (∀ i < 8, (charBits b)[i + 1]? = some (b.getLsbD i)) ∧
      Even ((((charBits b).drop 1).take 9).count true) ∧ charOfBits (charBits b) = some (.clean b) ∧
      (RxChar.clean b).parityError = false ∧ (RxChar.clean b).framingError = false) ∧
    (∀ (b : Byte) (i : Nat), 1 ≤ i → i ≤ 9 →
      ∃ c, charOfBits ((charBits b).modify i fun x => !x) = some c ∧ c.parityError = true ∧ c.framingError = false)) ∧
  (∀ (c : RxChar) (s : State),
     ∃ t, exec (.hostCharacterReceived c) s = .next t ∧
       (s.link.rx = none → c.value = 0xA5 → c.parityError = false → c.framingError = false →
         t.link.core = { s.link with
           rx := some { chars := [], parityError := false, framingError := false, gapFrom := s.now } }.core ∧
         keepsBut [.link, .outbox, .free] s t) ∧
       (s.link.rx = none → (c.value ≠ 0xA5 ∨ c.parityError = true ∨ c.framingError = true) →
         t.link.core = s.link.core ∧ keepsBut [.link, .outbox, .free] s t) ∧
       (∀ p, s.link.rx = some p → 320000 < s.now - 176 * s.link.divisor - p.gapFrom →
         runAll [.hostFrameAbandoned .length, .hostCharacterReceived c] s = some t) ∧
       (∀ p a, s.link.rx = some p → s.now - 176 * s.link.divisor - p.gapFrom ≤ 320000 → p.chars = [a] →
         (nat2 a c.value < 2 ∨ 514 < nat2 a c.value) →
         t.link.core = { s.link with rx := none, length := min 65535 (s.link.length + 1) }.core ∧
         keepsBut [.link, .outbox, .free] s t) ∧
       (∀ p a b kind tag body x, s.link.rx = some p → s.now - 176 * s.link.divisor - p.gapFrom ≤ 320000 →
         p.chars = a :: b :: kind :: tag :: (body ++ [x]) → nat2 a b = body.length + 2 → body.length ≤ 512 →
         exec (.hostCharacterReceived c) s = exec (.hostFrameTaken {
           kind := kind, tag := tag, body := body, crc := BitVec.ofNat 16 (nat2 x c.value)
           parityError := p.parityError || c.parityError, framingError := p.framingError || c.framingError }) s) ∧
       (∀ p, s.link.rx = some p → s.now - 176 * s.link.divisor - p.gapFrom ≤ 320000 →
         (p.chars = [] ∨ (∃ a, p.chars = [a] ∧ 2 ≤ nat2 a c.value ∧ nat2 a c.value ≤ 514) ∨
           ∃ a b more, p.chars = a :: b :: more ∧ 2 ≤ nat2 a b ∧ nat2 a b ≤ 514 ∧ more.length ≤ nat2 a b) →
         t.link.core = { s.link with
           rx := some { chars := p.chars ++ [c.value], parityError := p.parityError || c.parityError,
                        framingError := p.framingError || c.framingError, gapFrom := s.now } }.core ∧
         keepsBut [.link, .outbox, .free] s t)) ∧
  (∀ s : State,
     (∃ t, exec (.hostFrameAbandoned .length) s = .next t ∧
       t.link.core = { s.link with rx := none, length := min 65535 (s.link.length + 1) }.core ∧
       keepsBut [.link, .outbox, .free] s t) ∧
     (s.link.rx = none → ∃ t, exec (.hostFrameAbandoned .gap) s = .next t ∧ t.link.core = s.link.core ∧
       keepsBut [.link, .outbox, .free] s t) ∧
     ∀ p, s.link.rx = some p → ∃ t, exec (.hostFrameAbandoned .gap) s = .next t ∧
       t.link.core = { s.link with rx := none, length := min 65535 (s.link.length + 1) }.core ∧
       t.now = max s.now (p.gapFrom + 320000) ∧ keepsBut [.now, .chan, .lane, .inc, .link, .outbox, .free] s t)

/-- R179, R176: the end of a reply empties the slot; a waiting request is dispatched in the same event, and its
effects and its reply are those of its handling; the end of a notice leaves the slot as it is. -/
def Obligations.ReplyAndNoticeEnds : Prop :=
  ∀ (pins : Inputs) (s : State),
    (s.link.tx = .reply → s.link.resetPending = false → s.link.queue = [] →
      ∃ t, exec (.replySent pins) s = .next t ∧ t.link.core = { s.link with slot := none }.core ∧
        keepsBut [.link, .outbox, .free] s t) ∧
    (∀ r rest, s.link.tx = .reply → s.link.resetPending = false → s.link.queue = r :: rest →
      ∃ t u, exec (.replySent pins) s = .next t ∧
        u = handle r { s with link := { s.link with slot := none, tx := .idle, queue := rest } } ∧
        t.link.core = { u.1.link with slot := some u.2 }.core ∧ t.link.queue = rest ∧
        keepsBut [.link, .outbox, .free] u.1 t) ∧
    (∀ n, s.link.tx = .notice n → s.outbox = [] →
      ∃ t, exec .noticeSent s = .next t ∧ keepsBut [.link] s t ∧
        (s.link.slot ≠ none → t.link = { s.link with tx := .reply }) ∧
        (s.link.slot = none → s.link.notices = [] → t.link = { s.link with tx := .idle }) ∧
        (∀ m rest, s.link.slot = none → s.link.notices = m :: rest →
          t.link = { s.link with tx := .notice m, notices := rest }))

/-- R176, R177: a request of a kind outside R188 is answered UNKNOWN_KIND under kind 0xFF with the kind received; a
request whose body is not of a length its kind admits (R184, R185, R187, R195) is answered BAD_LENGTH; neither changes
any block. -/
def Obligations.UnknownKindsAndBadLengths : Prop :=
  ∀ (tag : Byte) (body : List Byte) (s : State), linkReady s →
    (∀ kind : Byte, kind.toNat ∉ requestKinds →
      ∃ t, exec (.unknownKindRequest kind tag body) s = .next t ∧
        t.link.core = { s.link with
          slot := some { kind := 0xFF, tag := tag, status := .unknownKind, items := .kindReceived kind } }.core ∧
        t.outbox = [] ∧ keepsBut [.link, .outbox, .free] s t) ∧
    ∀ p ∈ [(0x01, Instr.planClear tag body, body.length == 0), (0x02, .planStation tag body, body.length == 17),
        (0x03, .planZone tag body, body.length == 28), (0x04, .planChannel tag body, body.length == 21),
        (0x05, .planSensor tag body, body.length == 13), (0x06, .planCheck tag body, body.length == 0),
        (0x07, .readPlan tag body, body.length == 2),
        (0x10, .campaignOpen tag body,
          decide (11 ≤ body.length) && body.length == 11 + 2 * (body.getD 10 0).toNat),
        (0x11, .campaignAdd tag body, decide (1 ≤ body.length) && body.length == 1 + 2 * (body.getD 0 0).toNat),
        (0x12, .campaignCancel tag body, body.length == 1), (0x13, .campaignHalt tag body, body.length == 0),
        (0x14, .campaignResume tag body, body.length == 0), (0x15, .campaignAbort tag body, body.length == 0),
        (0x16, .campaignClose tag body, body.length == 0), (0x18, .stationRetry tag body, body.length == 2),
        (0x19, .stationRelease tag body, body.length == 1), (0x20, .readStatus tag body, body.length == 0),
        (0x21, .readStation tag body, body.length == 1), (0x22, .readZone tag body, body.length == 1),
        (0x23, .readChannel tag body, body.length == 1), (0x24, .readQueue tag body, body.length == 0),
        (0x25, .readLane tag body, body.length == 1), (0x26, .readSensor tag body, body.length == 1),
        (0x27, .readTime tag body, body.length == 0), (0x28, .readPort tag body, body.length == 1),
        (0x30, .scanConfig tag body, body.length == 6), (0x31, .sensorScan tag body, body.length == 0),
        (0x32, .timeMark tag body, body.length == 6), (0x33, .incidentDeclare tag body, body.length == 0),
        (0x34, .incidentClear tag body, body.length == 0), (0x35, .channelClearFault tag body 0, body.length == 1),
        (0x36, .portReset tag body, body.length == 1), (0x37, .noticeEnable tag body, body.length == 1)],
      p.2.2 = false → ∃ t, exec p.2.1 s = .next t ∧ answered [] s t p.1 tag .badLength .none

/-! ### The plan -/

/-- R3: while the gate is closed the six plan requests are refused with WRONG_STATE and change nothing. -/
def Obligations.ClosedGateRefusesThePlanRequests : Prop :=
  ∀ (tag : Byte) (body : List Byte) (s : State), linkReady s →
    (s.adm.campaign ≠ .idle ∨ ∃ n, s.stationState n = some .stranded) →
    ((readStationFields body).isSome →
      ∃ t, exec (.planStation tag body) s = .next t ∧ answered [] s t 0x02 tag .wrongState .none) ∧
    ((readZoneFields body).isSome →
      ∃ t, exec (.planZone tag body) s = .next t ∧ answered [] s t 0x03 tag .wrongState .none) ∧
    ((readChannelFields body).isSome →
      ∃ t, exec (.planChannel tag body) s = .next t ∧ answered [] s t 0x04 tag .wrongState .none) ∧
    ((readSensorFields body).isSome →
      ∃ t, exec (.planSensor tag body) s = .next t ∧ answered [] s t 0x05 tag .wrongState .none) ∧
    (body = [] →
      (∃ t, exec (.planClear tag body) s = .next t ∧ answered [] s t 0x01 tag .wrongState .none) ∧
      ∃ t, exec (.planCheck tag body) s = .next t ∧ answered [] s t 0x06 tag .wrongState .none)

/-- R4, R5, R111, R121, R138: with the gate open, PLAN_STATION stores its record with eight quantities clamped, gives
the port its rate and divisor, drops a frame part-way through reception, and begins the station's record in IDLE; a plan
that was READY loses its blind flags, with a NOTE_ZONE for each set one, in zone order (log 22, DESIGN CHOICE); a bit
rate outside 300..115200, or with a divisor error above 20,000 ppm, is refused with RATE_ERROR, and a station outside
the range, before its rate, with BAD_FIELD. -/
def Obligations.PlanStationStoresTheRecord : Prop :=
  (∀ (tag : Byte) (body : List Byte) (n : Fin 16) (f : StationPlan) (s : State), linkReady s → gateOpen s →
    readStationFields body = some (n.val, f) →
    ((300 ≤ f.bitRate ∧ f.bitRate ≤ 115200 ∧ divisorError f.bitRate ≤ 20000) →
      ∀ r v, r = { bitRate := f.bitRate
                   restartPulse := max 100 (min 2000 f.restartPulse)
                   bootTimeout := max 5 (min 900 f.bootTimeout)
                   dialogueTimeout := max 100 (min 5000 f.dialogueTimeout)
                   alignTimeout := max 1 (min 60 f.alignTimeout)
                   captureTolerance := min 100 f.captureTolerance
                   handbackTolerance := min 50 f.handbackTolerance
                   holdGrace := min 600 f.holdGrace
                   retryLimit := min 3 f.retryLimit } →
        v = planWritten { s.plan with stations := tset s.plan.stations n (some r) } s →
        exec (.planStation tag body) s = .next (answeredWith 0x02 tag .ok (.station n r) { v with
          adm := { s.adm with stations := tset s.adm.stations n (some ((s.station n).getD {
            state := .idle, cls := 0, captureFailures := 0, attempts := 0, alignAttempts := 0, lastReason := none
            checkpoint := none, releaseUnconfirmed := false, preCaptured := false })) }
          ports := tset s.ports n { s.port n with
            rate := some f.bitRate, divisor := some ((16000000 + 8 * f.bitRate) / (16 * f.bitRate))
            rx := none } })) ∧
    (¬(300 ≤ f.bitRate ∧ f.bitRate ≤ 115200 ∧ divisorError f.bitRate ≤ 20000) →
      ∃ t, exec (.planStation tag body) s = .next t ∧ answered [] s t 0x02 tag .rateError .none)) ∧
  ∀ (tag : Byte) (body : List Byte) (k : Nat) (f : StationPlan) (s : State), linkReady s → gateOpen s →
    readStationFields body = some (k, f) → 16 ≤ k →
    ∃ t, exec (.planStation tag body) s = .next t ∧ answered [] s t 0x02 tag .badField .none

/-- R4, R7, R8, R111, R121: with the gate open, PLAN_ZONE stores its record clamped, with law NONE, LIGHT in a LIGHT
zone or VENT in a VENT zone; the dwell of a LIGHT zone is 0 and an absent input's thresholds are 0; a plan that was
READY loses its blind flags, with a NOTE_ZONE for each set one, in zone order (log 22, DESIGN CHOICE). It is refused
with BAD_FIELD for a zone, kind or law outside its list, a law that does not agree with the kind, an input number
outside its range, a VENT law with no input or with a low threshold not below its high one after clamping, and a LIGHT
zone that holds a channel with sense FORWARD or REVERSE. -/
def Obligations.PlanZoneStoresOrRefuses : Prop :=
  (∀ (tag : Byte) (body : List Byte) (z : Fin 12) (k : ZoneKind) (f : ZoneFields) (s : State), linkReady s →
     gateOpen s → readZoneFields body = some f → f.zone = z.val → zoneKindOf f.kind = some k →
     (k = .light → ∀ c p, s.channelPlan c = some p → p.zone = z → p.incidentSense = .keep) →
     ∀ law : Law,
       ((f.law = 0 ∧ law = .none) ∨
         (∃ i : Fin 8, f.law = 1 ∧ k = .light ∧ f.luminance = i.val ∧
           law = .light i (max 1 (min 1000 f.k)) (max 1 (min 2000 f.lfull))) ∨
         (∃ co ext : Option (Fin 8), ∃ cl ch el eh : Nat, f.law = 2 ∧ k = .vent ∧
           f.co = ((co.map fun i => i.val).getD 255) ∧ f.ext = ((ext.map fun i => i.val).getD 255) ∧
           (co ≠ none ∨ ext ≠ none) ∧
           (cl, ch) = (if co = none then (0, 0) else (min 500 f.coLow, min 500 f.coHigh)) ∧
           (el, eh) = (if ext = none then (0, 0) else (min 20000 f.extLow, min 20000 f.extHigh)) ∧
           (co ≠ none → cl < ch) ∧ (ext ≠ none → el < eh) ∧ law = .vent co cl ch ext el eh)) →
       ∀ r, r = { kind := k, holdLimit := min 1000 f.holdLimit, settleTime := min 3600 f.settleTime
                  dwell := if k = .light then 0 else min 120 f.dwell
                  deadBand := min 100 f.deadBand, baseLevel := min 1000 f.baseLevel
                  blindLevel := min 1000 f.blindLevel, law := law } →
         exec (.planZone tag body) s = .next (answeredWith 0x03 tag .ok (.zone z r)
           (planWritten { s.plan with zones := tset s.plan.zones z (some r) } s))) ∧
  (∀ (tag : Byte) (body : List Byte) (f : ZoneFields) (s : State), linkReady s → gateOpen s →
     readZoneFields body = some f →
     (12 ≤ f.zone ∨ 2 ≤ f.kind ∨ 3 ≤ f.law ∨ (f.law = 1 ∧ f.kind = 0) ∨ (f.law = 2 ∧ f.kind = 1) ∨
       (f.law = 1 ∧ 8 ≤ f.luminance) ∨ (f.law = 2 ∧ 8 ≤ f.co ∧ f.co ≠ 255) ∨ (f.law = 2 ∧ 8 ≤ f.ext ∧ f.ext ≠ 255) ∨
       (f.law = 2 ∧ f.co = 255 ∧ f.ext = 255) ∨ (f.law = 2 ∧ f.co < 8 ∧ min 500 f.coHigh ≤ min 500 f.coLow) ∨
       (f.law = 2 ∧ f.ext < 8 ∧ min 20000 f.extHigh ≤ min 20000 f.extLow) ∨
       (f.kind = 1 ∧ ∃ c p, s.channelPlan c = some p ∧ p.zone.val = f.zone ∧ p.incidentSense ≠ .keep)) →
     ∃ t, exec (.planZone tag body) s = .next t ∧ answered [] s t 0x03 tag .badField .none)

/-- R4, R9, R10, R92, R96, R111, R121: with the gate open, PLAN_CHANNEL stores its record with its quantities clamped;
both fault detectors of the channel start afresh, and a set OPEN flag clears, with a NOTE_CHANNEL, when open-load detect
is off; a plan that was READY loses its blind flags, with a NOTE_ZONE for each set one, in zone order (log 22, DESIGN
CHOICE); a record that fails a test is refused with BAD_FIELD. -/
def Obligations.PlanChannelStoresTheRecord : Prop :=
  ∀ (tag : Byte) (body : List Byte) (f : ChannelFields) (s : State), linkReady s → gateOpen s →
    readChannelFields body = some f →
    (∀ (c : Fin 32) (o : Fin 16) (z : Fin 12) (i : IncidentSense) (th : Threshold) (od : Bool) (r : ChannelPlan)
        (x : Channel) (v : State),
      f.channel = c.val → f.owner = o.val → f.zone = z.val → incidentSenseOf f.incidentSense = some i →
      thresholdOf f.threshold = some th → f.deglitch ∈ [10, 20, 50, 100] → switchOf f.openDetect = some od →
      min 1000 f.minLevel ≤ min 1000 f.maxLevel →
      (i ≠ .keep → ∀ p, s.zonePlan z = some p → p.kind = .vent) →
      r = { owner := o, zone := z, capacity := max 1 (min 1000 f.capacity)
            minLevel := min 1000 f.minLevel, maxLevel := min 1000 f.maxLevel
            rampUp := max 1 (min 1000 f.rampUp), rampDown := max 1 (min 1000 f.rampDown)
            incidentLevel := min 1000 f.incidentLevel, incidentSense := i
            incidentRamp := max 1 (min 1000 f.incidentRamp), threshold := th, deglitch := f.deglitch
            openDetect := od } →
      x = { s.channel c with overloadProgress := 0, openProgress := 0, openFlag := (s.channel c).openFlag && od } →
      v = planWritten { s.plan with channels := tset s.plan.channels c (some r) } s →
      exec (.planChannel tag body) s = .next (answeredWith 0x04 tag .ok (.channel c r) { v with
        chan := { s.chan with channels := tset s.chan.channels c x }
        outbox := v.outbox ++ if (s.channel c).openFlag && !od then
          [(.channels, .channel c .openLoad false x.overload false x.mode x.level x.stage)] else [] })) ∧
    ((32 ≤ f.channel ∨ 16 ≤ f.owner ∨ 12 ≤ f.zone ∨ 3 ≤ f.incidentSense ∨ 2 ≤ f.threshold ∨
        f.deglitch ∉ [10, 20, 50, 100] ∨ 2 ≤ f.openDetect ∨ min 1000 f.maxLevel < min 1000 f.minLevel ∨
        (f.incidentSense ≠ 2 ∧ ∃ z p, f.zone = z.val ∧ s.zonePlan z = some p ∧ p.kind = .light)) →
      ∃ t, exec (.planChannel tag body) s = .next t ∧ answered [] s t 0x04 tag .badField .none)

/-- R4, R11, R12, R103, R111, R121: with the gate open, PLAN_SENSOR stores its record with its quantities clamped; the
input starts afresh, and a conversion of it in progress is discarded; a plan that was READY loses its blind flags, with
a NOTE_ZONE for each set one, in zone order (log 22, DESIGN CHOICE); a record that fails a test is refused with
BAD_FIELD. -/
def Obligations.PlanSensorStoresTheRecord : Prop :=
  ∀ (tag : Byte) (body : List Byte) (f : SensorFields) (s : State), linkReady s → gateOpen s →
    readSensorFields body = some f →
    (∀ (i : Fin 8) (k : SensorKind) (top : Nat) (r : SensorPlan),
      f.input = i.val → sensorKindOf f.kind = some k → top = (if k = .co then 500 else 20000) →
      ((k = .unused ∧
          r = { kind := k, rawBroken := 0, rawLo := 0, rawHi := 0, valueLo := 0, valueHi := 0, shift := 0 }) ∨
        (k ≠ .unused ∧ r.rawBroken < r.rawLo ∧ r.rawLo < r.rawHi ∧ r.valueLo < r.valueHi ∧
          r = { kind := k, rawBroken := min 4095 f.rawBroken, rawLo := min 4095 f.rawLo, rawHi := min 4095 f.rawHi
                valueLo := min top f.valueLo, valueHi := min top f.valueHi, shift := min 4 f.shift })) →
      ∀ v, v = planWritten { s.plan with sensors := tset s.plan.sensors i (some r) } s →
      exec (.planSensor tag body) s = .next (answeredWith 0x05 tag .ok (.sensor i r) { v with
        scan := { s.scan with
          inputs := tset s.scan.inputs i { raw := none, value := none, filtered := none, broken := false
                                           valid := false, seedPending := true, ageFrom := none }
          discard := s.scan.discard || (s.scan.scanning && decide (s.scan.index = i)) } })) ∧
    ((8 ≤ f.input ∨ 4 ≤ f.kind ∨
        (1 ≤ f.kind ∧ (min 4095 f.rawLo ≤ min 4095 f.rawBroken ∨ min 4095 f.rawHi ≤ min 4095 f.rawLo)) ∨
        (f.kind = 2 ∧ min 500 f.valueHi ≤ min 500 f.valueLo) ∨
        ((f.kind = 1 ∨ f.kind = 3) ∧ min 20000 f.valueHi ≤ min 20000 f.valueLo)) →
      ∃ t, exec (.planSensor tag body) s = .next t ∧ answered [] s t 0x05 tag .badField .none)

/-- R13, R111, R121: with the gate open, PLAN_CLEAR empties the four tables, discards the derived values, ends every
station record, leaves every port without a rate, starts every input afresh, clears the blind flags of a READY plan with
a NOTE_ZONE for each set one, and stops fault detection: OPEN flags clear, each with its NOTE_CHANNEL, OVERLOAD flags
stay. That a reception in progress and a waiting frame are dropped and the deglitch progress returns to 0 is the model's
reading (log 14, DEDUCED); the order of the notices, the zones and then the channels in ascending order, is its choice
(log 22). -/
def Obligations.PlanClearEmptiesThePlan : Prop :=
  ∀ (tag : Byte) (s : State), linkReady s → gateOpen s →
    exec (.planClear tag []) s = .next (answeredWith 0x01 tag .ok .none { s with
      plan := { state := .empty, stations := tfill 16 none, zones := tfill 12 none, channels := tfill 32 none,
                sensors := tfill 8 none, derived := none }
      adm := { s.adm with stations := tfill 16 none }
      ports := tmap (fun _ p => { p with rate := none, divisor := none, rx := none, waiting := none }) s.ports
      scan := { s.scan with inputs := tfill 8 InputRec.fresh, discard := s.scan.discard || s.scan.scanning }
      chan := { s.chan with
        channels := tmap (fun _ r => { r with overloadProgress := 0, openProgress := 0, openFlag := false })
          s.chan.channels }
      reg := { s.reg with
        zones := tmap (fun _ r => if s.plan.state = .ready then { r with blind := false, blindInputs := [] } else r)
          s.reg.zones }
      outbox := s.outbox ++ clearedNotes s ++ (allChannels.filter fun c => (s.channel c).openFlag).map fun c =>
        (.channels, .channel c .openLoad false (s.channel c).overload false (s.channel c).mode (s.channel c).level
          (s.channel c).stage) })

/-- R15, R18, R111, R121: with the gate open, PLAN_CHECK is refused in EMPTY; a plan that fails stays DRAFT, and the
reply names the check and the index; a plan that passes becomes READY with its derived values, and a plan that was DRAFT
forms the blind flag of each defined zone with a law, with a NOTE_ZONE for each change, in zone order (log 22, DESIGN
CHOICE). -/
def Obligations.PlanCheckDecides : Prop :=
  ∀ (tag : Byte) (s : State), linkReady s → gateOpen s →
    (s.plan.state = .empty →
      ∃ t, exec (.planCheck tag []) s = .next t ∧ answered [] s t 0x06 tag .wrongState .none) ∧
    (∀ code index, s.plan.state ≠ .empty → firstFailure s.plan = some (code, index) →
      exec (.planCheck tag []) s = .next (answeredWith 0x06 tag .planInvalid (.check code index) { s with
        plan := { s.plan with derived := none } })) ∧
    (s.plan.state ≠ .empty → firstFailure s.plan = none →
      exec (.planCheck tag []) s = .next (answeredWith 0x06 tag .ok .none { s with
        plan := { s.plan with state := .ready, derived := some (derive_ s.plan) }
        reg := { s.reg with
          zones := tmap (fun z r => if s.plan.state = .ready then r else blindRecord s z r) s.reg.zones }
        outbox := s.outbox ++ if s.plan.state = .ready then [] else blindNotes s }))

/-- R6, R15 to R18: the plan check passes exactly when every defined station has one to eight bound channels, every
law names defined inputs of its kinds, every defined channel names a defined station and zone, and taking a station's
channels out of live control never exceeds a zone's hold limit; otherwise the first check that fails is named with its
least failing slot. The derived values are the bound-channel lists, the zone totals and counts, the capacity of each
station in each zone, and the kinds. -/
def Obligations.PlanCheckAndDerivedValues : Prop :=
  (∀ p : PlanStore,
     (firstFailure p = none ↔
       (∀ n, tget p.stations n ≠ none →
         1 ≤ (Finset.univ.filter fun c => ∃ r, tget p.channels c = some r ∧ r.owner = n).card ∧
           (Finset.univ.filter fun c => ∃ r, tget p.channels c = some r ∧ r.owner = n).card ≤ 8) ∧
       (∀ z r, tget p.zones z = some r → ∀ i, ∀ k : SensorKind,
         (match r.law with
           | .none => False
           | .light a _ _ => i = a ∧ k = .luminance
           | .vent co _ _ ext _ _ => (co = some i ∧ k = .co) ∨ (ext = some i ∧ k = .extinction)) →
         ∃ q, tget p.sensors i = some q ∧ q.kind = k) ∧
       (∀ c r, tget p.channels c = some r → tget p.stations r.owner ≠ none ∧ tget p.zones r.zone ≠ none) ∧
       (∀ n, tget p.stations n ≠ none → ∀ z r, tget p.zones z = some r →
         1000 * (∑ c, match tget p.channels c with
             | some q => if q.owner = n ∧ q.zone = z then q.capacity else 0
             | none => 0) ≤
           r.holdLimit * ∑ c, match tget p.channels c with
             | some q => if q.zone = z then q.capacity else 0
             | none => 0)) ∧
     ∀ code index : Nat, (firstFailure p = some (code, index) ↔
       planFault p code index ∧ (∀ i < index, ¬planFault p code i) ∧ ∀ k < code, ∀ i, ¬planFault p k i)) ∧
  (∀ p : PlanStore,
     (∀ n, tget p.stations n ≠ none →
       ∀ c, c ∈ tget (derive_ p).bound n ↔ ∃ r, tget p.channels c = some r ∧ r.owner = n) ∧
     (∀ n, (tget (derive_ p).bound n).Pairwise (· < ·)) ∧
     (∀ z, tget (derive_ p).total z = ∑ c, match tget p.channels c with
         | some q => if q.zone = z then q.capacity else 0
         | none => 0) ∧
     (∀ z, tget (derive_ p).count z = (Finset.univ.filter fun c => ∃ r, tget p.channels c = some r ∧ r.zone = z).card) ∧
     (∀ n z, tget p.stations n ≠ none → tget (tget (derive_ p).cap n) z = ∑ c, match tget p.channels c with
         | some q => if q.owner = n ∧ q.zone = z then q.capacity else 0
         | none => 0) ∧
     (∀ c r z, tget p.channels c = some r → tget p.zones r.zone = some z → tget (derive_ p).kind c = some z.kind))

/-- R14, R185: READ_PLAN answers a defined slot with its record and, exactly while the plan is READY, its derived
values; an undefined slot with NOT_DEFINED; it changes nothing. The length of the reply's body tells whether derived
values are present; the bytes of the derived values are the model's reading of R189 and R195 (log 38, DEDUCED). -/
def Obligations.ReadPlanAnswersTheSlot : Prop :=
  (∀ (tag table slot : Byte) (s : State), linkReady s → PlanInv s.plan →
    ∃ t, exec (.readPlan tag [table, slot]) s = .next t ∧
      (s.plan.derived ≠ none ↔ s.plan.state = .ready) ∧
      (∀ n : Fin 16, table = 0 → slot.toNat = n.val →
        (s.stationPlan n = none → answered [] s t 0x07 tag .notDefined .none) ∧
        ∀ r, s.stationPlan n = some r → answered [] s t 0x07 tag .ok
          (.readStationPlan n r (s.plan.derived.map fun d => tget d.bound n))) ∧
      (∀ n : Fin 12, table = 1 → slot.toNat = n.val →
        (s.zonePlan n = none → answered [] s t 0x07 tag .notDefined .none) ∧
        ∀ r, s.zonePlan n = some r → answered [] s t 0x07 tag .ok
          (.readZonePlan n r (s.plan.derived.map fun d => (tget d.total n, tget d.count n)))) ∧
      (∀ n : Fin 32, table = 2 → slot.toNat = n.val →
        (s.channelPlan n = none → answered [] s t 0x07 tag .notDefined .none) ∧
        ∀ r, s.channelPlan n = some r → answered [] s t 0x07 tag .ok
          (.readChannelPlan n r (s.plan.derived.bind fun d => tget d.kind n))) ∧
      (∀ n : Fin 8, table = 3 → slot.toNat = n.val →
        (s.sensorPlan n = none → answered [] s t 0x07 tag .notDefined .none) ∧
        ∀ r, s.sensorPlan n = some r → answered [] s t 0x07 tag .ok (.readSensorPlan n r)) ∧
      ((4 ≤ table.toNat ∨ (table = 0 ∧ 16 ≤ slot.toNat) ∨ (table = 1 ∧ 12 ≤ slot.toNat) ∨
          (table = 2 ∧ 32 ≤ slot.toNat) ∨ (table = 3 ∧ 8 ≤ slot.toNat)) →
        answered [] s t 0x07 tag .badField .none)) ∧
  (∀ (n : Fin 16) (r : StationPlan) (l : List (Fin 32)),
     (itemBytes (.readStationPlan n r none)).map (·.length) = some 17 ∧
       (itemBytes (.readStationPlan n r (some l))).map (·.length) = some (17 + l.length)) ∧
  (∀ (n : Fin 12) (r : ZonePlan) (total count : Nat),
     (itemBytes (.readZonePlan n r none)).map (·.length) = some 28 ∧
       itemBytes (.readZonePlan n r (some (total, count))) =
         (itemBytes (.zone n r)).map fun b => b ++ bytes2 total ++ [byteOf count]) ∧
  (∀ (n : Fin 32) (r : ChannelPlan) (k : ZoneKind),
     (itemBytes (.readChannelPlan n r none)).map (·.length) = some 21 ∧
       itemBytes (.readChannelPlan n r (some k)) =
         (itemBytes (.channel n r)).map fun b => b ++ [if k = .vent then 0 else 1]) ∧
  ∀ (n : Fin 8) (r : SensorPlan), (itemBytes (.readSensorPlan n r)).map (·.length) = some 13

/-- R108, R122, R154, R171, R181, R185, R186: the reads answer with the records as they stand and change nothing but,
for READ_STATUS, the notices-lost flag, which it reports as it stood and clears. A station's lane and stage are given
exactly while it is ACTIVE. Tunnel time is absent in UNSET, and its microsecond part is the share of the rate period P
since the last boundary, rounded down and held at 999,999 (R161). READ_CHANNEL gives every item of the channel record
but the deglitch progress (R76). Remaining times are given in ticks and the age of an input in whole milliseconds,
rounded down: the model's reading (log 24, DEDUCED). The ticks since the last boundary have no ceiling: the model's
choice (log 39). A number outside its range is answered BAD_FIELD, an undefined station, zone or input NOT_DEFINED. -/
def Obligations.ReadsAnswerTheRecords : Prop :=
  ∀ (tag : Byte) (s : State), linkReady s →
    (∃ t, exec (.readStatus tag []) s = .next t ∧ keepsBut [.link, .outbox, .free] s t ∧
      t.link.core = { s.link with slot := some (Reply.mk 0xA0 tag .ok (.status 1 s.plan.state s.adm.campaign
        (s.inc.line || s.inc.hostFlag) s.inc.line s.inc.hostFlag s.time.state s.link.lost s.link.parity s.link.framing
        s.link.crc s.link.length s.link.overrun)) }.core ∧
      (s.outbox = [] → t.link.lost = false)) ∧
    (∀ (n : Fin 16) (r : StationRec), s.station n = some r →
      (r.state = .active ↔ ∃ l, (s.laneRec l).station = some n) →
      ∃ t i, exec (.readStation tag [byteOf n.val]) s = .next t ∧ answered [] s t 0x21 tag .ok i ∧
        ∃ lane entry, i = .stationRecord n r.state lane entry r.cls r.captureFailures r.attempts r.alignAttempts
            r.lastReason (r.checkpoint.map fun c => (c.bytes.length, c.modeByte)) r.releaseUnconfirmed r.preCaptured
            (s.grace n) (match s.grace n with | .running d => some (d - s.now) | _ => none)
            (tget s.lane.ready n) (tget s.lane.restartLine n) ∧
          (lane = none ↔ r.state ≠ .active) ∧
          (∀ l st, lane = some (l, st) → (s.laneRec l).station = some n ∧ (s.laneRec l).stage = st) ∧
          (entry = none ↔ ∀ e ∈ s.adm.queue, e.station ≠ n) ∧
          ∀ k pre, entry = some (k, pre) →
            ∃ e, s.adm.queue[k]? = some e ∧ e.station = n ∧ e.preCaptured = pre) ∧
    (∀ (z : Fin 12) (p : ZonePlan), s.zonePlan z = some p →
      ∃ t, exec (.readZone tag [byteOf z.val]) s = .next t ∧
        answered [] s t 0x22 tag .ok (.zoneRecord z (s.zoneRec z) (reservedCapacity s z)
          ((tget s.adm.settle z).map fun d => d - s.now))) ∧
    (∀ c : Fin 32, ∃ t, exec (.readChannel tag [byteOf c.val]) s = .next t ∧
      answered [] s t 0x23 tag .ok (.channelRecord c (s.channelPlan c).isSome
        (s.plan.derived.bind fun d => tget d.kind c)
        { mode := (s.channel c).mode, relay := (s.channel c).relay, stage := (s.channel c).stage
          level := (s.channel c).level, sense := (s.channel c).sense, target := (s.channel c).target
          reversal := (s.channel c).reversal, reversalSense := (s.channel c).reversalSense
          dwellRemaining := (s.channel c).dwellUntil.map fun d => d - s.now
          observedLevel := (s.channel c).observedLevel, observedSense := (s.channel c).observedSense
          loadCurrent := (s.channel c).loadCurrent, overload := (s.channel c).overload
          openFlag := (s.channel c).openFlag } (tget s.adm.reserved c))) ∧
    (∃ t, exec (.readQueue tag []) s = .next t ∧ answered [] s t 0x24 tag .ok (.queue s.adm.queue)) ∧
    (∀ l : Fin 4, ∃ t, exec (.readLane tag [byteOf l.val]) s = .next t ∧
      answered [] s t 0x25 tag .ok (.laneRecord l (s.laneRec l) ((s.laneRec l).timer.map fun d => d - s.now)
        (s.adm.params.any fun p => decide (l.val < p.lanesInUse)))) ∧
    (∀ (i : Fin 8) (p : SensorPlan), s.sensorPlan i = some p →
      ∃ t, exec (.readSensor tag [byteOf i.val]) s = .next t ∧
        answered [] s t 0x26 tag .ok (.sensorRecord i p.kind (s.input i)
          ((s.input i).ageFrom.map fun d => min 65535 ((s.now - d) / 16000))
          (match s.scan.config.mode, s.scan.config.trigger with
            | .cyclic, .period => 3 * s.scan.config.period
            | .cyclic, .mark => 3000
            | _, _ => 5000)
          s.scan.config s.scan.scanning s.scan.index (s.scan.timer.map fun d => d - s.now))) ∧
    (∃ t, exec (.readTime tag []) s = .next t ∧
      answered [] s t 0x27 tag .ok (.timeRecord s.time.state (tunnelTime s) s.time.mark s.time.rateP s.time.samples
        s.time.glitches (s.time.last.map fun b => (s.now - b.1, b.2))
        (match s.time.watchdog, s.time.holdover with
          | some d, _ => some (d - s.now)
          | none, some d => some (d - s.now)
          | none, none => none))) ∧
    (s.time.state = .unset → tunnelTime s = none) ∧
    (∀ d x b, s.time.state ≠ .unset → s.time.day = some d → s.time.second = some x → s.time.last = some b →
      0 < s.time.rateP → tunnelTime s = some
        { day := d, second := x, micro := min ((s.now - b.1) * 1000000 / s.time.rateP) 999999 }) ∧
    (∀ n : Fin 16, ∃ t, exec (.readPort tag [byteOf n.val]) s = .next t ∧
      answered [] s t 0x28 tag .ok (.portRecord n (s.port n) ((s.port n).rate.map divisorError)
        (((s.port n).dialogue.bind fun d => d.timer).map fun d => d - s.now))) ∧
    (∀ x : Byte,
      ∀ p ∈ [(0x21, Instr.readStation tag [x], 16), (0x22, .readZone tag [x], 12), (0x23, .readChannel tag [x], 32),
          (0x25, .readLane tag [x], 4), (0x26, .readSensor tag [x], 8), (0x28, .readPort tag [x], 16)],
        p.2.2 ≤ x.toNat → ∃ t, exec p.2.1 s = .next t ∧ answered [] s t p.1 tag .badField .none) ∧
    (∀ n : Fin 16, s.station n = none →
      ∃ t, exec (.readStation tag [byteOf n.val]) s = .next t ∧ answered [] s t 0x21 tag .notDefined .none) ∧
    (∀ z : Fin 12, s.zonePlan z = none →
      ∃ t, exec (.readZone tag [byteOf z.val]) s = .next t ∧ answered [] s t 0x22 tag .notDefined .none) ∧
    ∀ i : Fin 8, s.sensorPlan i = none →
      ∃ t, exec (.readSensor tag [byteOf i.val]) s = .next t ∧ answered [] s t 0x26 tag .notDefined .none

/-! ### The campaign -/

/-- R20, R21, R28, R37, R177: CAMPAIGN_OPEN in IDLE with the plan READY, a window inside the day, one to sixteen
entries, each an IDLE or STRANDED defined station named once: the campaign runs with its parameters as clamped, each
entry joins the queue in list order, an IDLE station becomes QUEUED with its NOTE_STATION and a STRANDED one keeps its
state under a pre-captured entry; then one pass. It is refused in another state or plan state, with a window outside the
day, or with a count outside 1..16; and at the first entry that fails, under its status with its position. -/
def Obligations.CampaignOpenStartsOrRefuses : Prop :=
  (∀ (tag : Byte) (body : List Byte) (p : CampaignParams) (es : List (Fin 16 × Fin 4)) (s : State), linkReady s →
     readOpen body = some (p, es.map fun e => (e.1.val, e.2.val)) → s.adm.campaign = .idle → s.plan.state = .ready →
     p.windowStart < 86400 → p.windowEnd < 86400 → 1 ≤ es.length → es.length ≤ 16 → (es.map (·.1)).Nodup →
     (∀ e ∈ es, ∃ r, s.station e.1 = some r ∧ (r.state = .idle ∨ r.state = .stranded)) →
     ∀ v u, v = { s with
         adm := { campaign := .running
                  params := some { windowStart := p.windowStart, windowEnd := p.windowEnd
                                   lanesInUse := max 1 (min 4 p.lanesInUse)
                                   passOverLimit := max 1 (min 15 p.passOverLimit) }
                  queue := s.adm.queue ++ es.map fun e =>
                    { station := e.1, cls := e.2, preCaptured := decide (s.stationState e.1 = some .stranded)
                      passOver := 0, pinned := false, block := .none }
                  reserved := s.adm.reserved, settle := s.adm.settle
                  stations := tmap (fun n q => if n ∈ es.map (·.1) then q.map (fun r => { r with
                      state := if r.state = .stranded then .stranded else .queued, captureFailures := 0
                      lastReason := none, releaseUnconfirmed := false
                      preCaptured := r.preCaptured || decide (r.state = .stranded) })
                    else q) s.adm.stations }
         outbox := s.outbox ++ (es.filter fun e => decide (s.stationState e.1 = some .idle)).map fun e =>
           (.admission, .station e.1 .queued none none) } →
       u = callPass v →
       exec (.campaignOpen tag body) s =
         .next (answeredWith 0x10 tag .ok (.campaign u.adm.campaign u.adm.params none) u)) ∧
  (∀ (tag : Byte) (body : List Byte) (p : CampaignParams) (es : List (Nat × Nat)) (s : State), linkReady s →
     readOpen body = some (p, es) →
     ((s.adm.campaign ≠ .idle ∨ s.plan.state ≠ .ready) →
       ∃ t, exec (.campaignOpen tag body) s = .next t ∧ answered [] s t 0x10 tag .wrongState .none) ∧
     (s.adm.campaign = .idle → s.plan.state = .ready →
       ((86400 ≤ p.windowStart ∨ 86400 ≤ p.windowEnd ∨ es = [] ∨ 16 < es.length) →
         ∃ t, exec (.campaignOpen tag body) s = .next t ∧ answered [] s t 0x10 tag .badField .none) ∧
       ∀ (good : List (Fin 16 × Fin 4)) (x : Nat × Nat) (rest : List (Nat × Nat)) (st : Status),
         p.windowStart < 86400 → p.windowEnd < 86400 → es.length ≤ 16 →
         es = good.map (fun e => (e.1.val, e.2.val)) ++ x :: rest → (good.map (·.1)).Nodup →
         (∀ e ∈ good, ∃ r, s.station e.1 = some r ∧ (r.state = .idle ∨ r.state = .stranded)) →
         (((16 ≤ x.1 ∨ 4 ≤ x.2) ∧ st = .badField) ∨
           (∃ n : Fin 16, x.1 = n.val ∧ x.2 < 4 ∧ s.station n = none ∧ st = .notDefined) ∨
           (∃ n : Fin 16, x.1 = n.val ∧ x.2 < 4 ∧ n ∈ good.map (·.1) ∧ st = .duplicate) ∨
           (∃ (n : Fin 16) (r : StationRec), x.1 = n.val ∧ x.2 < 4 ∧ n ∉ good.map (·.1) ∧ s.station n = some r ∧
             r.state ≠ .idle ∧ r.state ≠ .stranded ∧ st = .wrongState)) →
         ∃ t, exec (.campaignOpen tag body) s = .next t ∧ answered [] s t 0x10 tag st (.position good.length)))

/-- R22, R28, R37, R177: CAMPAIGN_ADD in RUNNING and HALTED: each entry, an IDLE or STRANDED station without an entry,
joins the tail of a queue that has room, an IDLE station becoming QUEUED with its NOTE_STATION; then one pass. In
another state it is refused with WRONG_STATE; with a count outside 1..16, with BAD_FIELD; at the first entry that fails,
under its status with its position (a station listed twice, with an entry, or ACTIVE is a DUPLICATE); with no room, with
QUEUE_FULL. -/
def Obligations.CampaignAddAppendsEntries : Prop :=
  (∀ (tag : Byte) (body : List Byte) (es : List (Fin 16 × Fin 4)) (s : State), linkReady s →
    readEntries body = some (es.map fun e => (e.1.val, e.2.val)) →
    (s.adm.campaign = .running ∨ s.adm.campaign = .halted) → 1 ≤ es.length → es.length ≤ 16 →
      (es.map (·.1)).Nodup →
      (∀ e ∈ es, (∀ q ∈ s.adm.queue, q.station ≠ e.1) ∧
        ∃ r, s.station e.1 = some r ∧ (r.state = .idle ∨ r.state = .stranded)) →
      (16 < s.adm.queue.length + es.length →
        ∃ t, exec (.campaignAdd tag body) s = .next t ∧ answered [] s t 0x11 tag .queueFull .none) ∧
      (s.adm.queue.length + es.length ≤ 16 →
        ∀ v u, v = { s with
            adm := { s.adm with
              queue := s.adm.queue ++ es.map fun e =>
                { station := e.1, cls := e.2, preCaptured := decide (s.stationState e.1 = some .stranded)
                  passOver := 0, pinned := false, block := .none }
              stations := tmap (fun n q => if n ∈ es.map (·.1) then q.map (fun r => { r with
                  state := if r.state = .stranded then .stranded else .queued, lastReason := none
                  releaseUnconfirmed := false, preCaptured := r.preCaptured || decide (r.state = .stranded) })
                else q) s.adm.stations }
            outbox := s.outbox ++ (es.filter fun e => decide (s.stationState e.1 = some .idle)).map fun e =>
              (.admission, .station e.1 .queued none none) } →
          u = callPass v →
          exec (.campaignAdd tag body) s = .next
            (answeredWith 0x11 tag .ok (.campaign u.adm.campaign u.adm.params (some u.adm.queue.length)) u))) ∧
  (∀ (tag : Byte) (body : List Byte) (es : List (Nat × Nat)) (s : State), linkReady s → readEntries body = some es →
    (s.adm.campaign ≠ .running → s.adm.campaign ≠ .halted →
      ∃ t, exec (.campaignAdd tag body) s = .next t ∧ answered [] s t 0x11 tag .wrongState .none) ∧
    ((s.adm.campaign = .running ∨ s.adm.campaign = .halted) →
      ((es = [] ∨ 16 < es.length) →
        ∃ t, exec (.campaignAdd tag body) s = .next t ∧ answered [] s t 0x11 tag .badField .none) ∧
      ∀ (good : List (Fin 16 × Fin 4)) (x : Nat × Nat) (rest : List (Nat × Nat)) (st : Status),
        es.length ≤ 16 → es = good.map (fun e => (e.1.val, e.2.val)) ++ x :: rest → (good.map (·.1)).Nodup →
        (∀ e ∈ good, (∀ q ∈ s.adm.queue, q.station ≠ e.1) ∧
          ∃ r, s.station e.1 = some r ∧ (r.state = .idle ∨ r.state = .stranded)) →
        (((16 ≤ x.1 ∨ 4 ≤ x.2) ∧ st = .badField) ∨
          (∃ n : Fin 16, x.1 = n.val ∧ x.2 < 4 ∧ s.station n = none ∧ st = .notDefined) ∨
          (∃ (n : Fin 16) (r : StationRec), x.1 = n.val ∧ x.2 < 4 ∧ s.station n = some r ∧
            (n ∈ good.map (·.1) ∨ (∃ q ∈ s.adm.queue, q.station = n) ∨ r.state = .active) ∧ st = .duplicate) ∨
          (∃ (n : Fin 16) (r : StationRec), x.1 = n.val ∧ x.2 < 4 ∧ n ∉ good.map (·.1) ∧
            (∀ q ∈ s.adm.queue, q.station ≠ n) ∧ s.station n = some r ∧ r.state ≠ .active ∧ r.state ≠ .idle ∧
            r.state ≠ .stranded ∧ st = .wrongState)) →
        ∃ t, exec (.campaignAdd tag body) s = .next t ∧ answered [] s t 0x11 tag st (.position good.length)))

/-- R23, R26, R28, R37: CAMPAIGN_CANCEL in RUNNING and HALTED of a station with an entry: the entry is removed, an
ordinary entry's station becomes CANCELLED with its NOTE_STATION, a pre-captured entry's station only loses its flag;
then one pass and the campaign-end test. In another state, or with no entry, it is refused with WRONG_STATE; outside the
range with BAD_FIELD, and at an undefined slot with NOT_DEFINED. -/
def Obligations.CampaignCancelRemovesTheEntry : Prop :=
  (∀ (tag : Byte) (n : Fin 16) (r : StationRec) (s : State), linkReady s → s.station n = some r →
    (((s.adm.campaign ≠ .running ∧ s.adm.campaign ≠ .halted) ∨ ∀ q ∈ s.adm.queue, q.station ≠ n) →
      ∃ t, exec (.campaignCancel tag [byteOf n.val]) s = .next t ∧ answered [] s t 0x12 tag .wrongState .none) ∧
    ∀ (before after : List QueueEntry) (e : QueueEntry), (s.adm.campaign = .running ∨ s.adm.campaign = .halted) →
      s.adm.queue = before ++ e :: after → e.station = n → (∀ q ∈ before ++ after, q.station ≠ n) →
      ∀ r' u, r' = (if e.preCaptured then { r with preCaptured := false } else { r with state := .cancelled }) →
        u = endTest (callPass { s with
          adm := { s.adm with queue := before ++ after, stations := tset s.adm.stations n (some r') }
          outbox := s.outbox ++ if e.preCaptured then [] else [stateNote n r'] }) →
        exec (.campaignCancel tag [byteOf n.val]) s = .next
          (answeredWith 0x12 tag .ok (.campaign u.adm.campaign u.adm.params (some u.adm.queue.length)) u)) ∧
  ∀ (tag x : Byte) (s : State), linkReady s →
    (16 ≤ x.toNat → ∃ t, exec (.campaignCancel tag [x]) s = .next t ∧ answered [] s t 0x12 tag .badField .none) ∧
    ∀ n : Fin 16, x.toNat = n.val → s.station n = none →
      ∃ t, exec (.campaignCancel tag [x]) s = .next t ∧ answered [] s t 0x12 tag .notDefined .none

/-- R24, R27, R28, R37: CAMPAIGN_HALT is accepted in RUNNING only, CAMPAIGN_RESUME in HALTED only, where a pass follows;
each changes the campaign state alone. CAMPAIGN_CLOSE is accepted in ENDED only: every DONE, DECLINED and CANCELLED
station becomes IDLE, with its NOTE_STATION, in station order (log 22, DESIGN CHOICE), the parameters are discarded, and
the campaign is IDLE. In any other state they are refused with WRONG_STATE. -/
def Obligations.CampaignHaltResumeAndClose : Prop :=
  (∀ (tag : Byte) (s : State), linkReady s →
     (s.adm.campaign = .running →
       exec (.campaignHalt tag []) s = .next (answeredWith 0x13 tag .ok (.campaign .halted s.adm.params none)
         { s with adm := { s.adm with campaign := .halted } })) ∧
     (s.adm.campaign ≠ .running →
       ∃ t, exec (.campaignHalt tag []) s = .next t ∧ answered [] s t 0x13 tag .wrongState .none) ∧
     (s.adm.campaign = .halted →
       exec (.campaignResume tag []) s = .next (answeredWith 0x14 tag .ok (.campaign .running s.adm.params none)
         (callPass { s with adm := { s.adm with campaign := .running } })) ∧
       ((s.time.state = .unset ∨ s.adm.queue = []) →
         exec (.campaignResume tag []) s = .next (answeredWith 0x14 tag .ok (.campaign .running s.adm.params none)
           { s with adm := { s.adm with campaign := .running } }))) ∧
     (s.adm.campaign ≠ .halted →
       ∃ t, exec (.campaignResume tag []) s = .next t ∧ answered [] s t 0x14 tag .wrongState .none)) ∧
  (∀ (tag : Byte) (s : State), linkReady s →
     (s.adm.campaign ≠ .ended →
       ∃ t, exec (.campaignClose tag []) s = .next t ∧ answered [] s t 0x16 tag .wrongState .none) ∧
     (s.adm.campaign = .ended →
       ∀ closed : StationRec → Bool,
         closed = (fun r => decide (r.state = .done ∨ r.state = .declined ∨ r.state = .cancelled)) →
       exec (.campaignClose tag []) s = .next (answeredWith 0x16 tag .ok (.campaignState .idle) { s with
         adm := { s.adm with
           campaign := .idle, params := none
           stations := tmap (fun _ q => q.map fun r => if closed r then { r with state := .idle } else r)
             s.adm.stations }
         outbox := s.outbox ++ allStations.filterMap fun n => (s.station n).bind fun r =>
           if closed r then some (stateNote n { r with state := .idle }) else none })))

/-- R25, R26, R28, R36, R46, R53, R74: CAMPAIGN_ABORT in RUNNING and HALTED: the queue is emptied, the stations of
ordinary entries become CANCELLED and those of pre-captured ones lose their flag; a lane in CAPTURE whose port is ONLINE
abandons FREEZE and goes to ROLLBACK with reason ABORTED, its reservations released and THAW opened, and a lane in any
other stage is left alone; with every lane FREE the campaign has ended, and otherwise it is ABORTING. The NOTE_STATIONs
of the queue come first, then those of the lanes, in lane order (log 22, DESIGN CHOICE). -/
def Obligations.CampaignAbortEmptiesTheQueue : Prop :=
  ∀ (tag : Byte) (s : State), linkReady s →
    (s.adm.campaign ≠ .running → s.adm.campaign ≠ .halted →
      ∃ t, exec (.campaignAbort tag []) s = .next t ∧ answered [] s t 0x15 tag .wrongState .none) ∧
    ((s.adm.campaign = .running ∨ s.adm.campaign = .halted) →
      (∃ t, exec (.campaignAbort tag []) s = .next t ∧
        replied s t 0x15 tag .ok (.campaign t.adm.campaign s.adm.params none) ∧
        keepsBut [.adm, .lane, .ports, .link, .outbox, .free] s t ∧ t.adm.queue = [] ∧ t.adm.params = s.adm.params ∧
        t.adm.settle = s.adm.settle ∧
        (∀ l, (s.laneRec l).stage ≠ .capture → t.laneRec l = s.laneRec l) ∧
        (∀ l n, (s.laneRec l).stage = .capture → (s.laneRec l).station = some n → (s.port n).faulted = false →
          t.laneRec l = { s.laneRec l with stage := .rollback, timer := none, rollbackReason := some .aborted })) ∧
      ((s.adm.queue.map (·.station)).Nodup →
        (∀ l, (s.laneRec l).stage = .capture → ∃ n, (s.laneRec l).station = some n ∧ (s.port n).faulted = false ∧
          s.laneOf n = some l ∧ s.station n ≠ none ∧ ∀ q ∈ s.adm.queue, q.station ≠ n) →
        ∃ v, exec (.campaignAbort tag []) s =
            .next (answeredWith 0x15 tag .ok (.campaign v.adm.campaign s.adm.params none) v) ∧
          keepsBut [.adm, .lane, .ports, .outbox] s v ∧ v.adm.queue = [] ∧ v.adm.params = s.adm.params ∧
          v.adm.settle = s.adm.settle ∧
          v.adm.campaign = (if ∀ l, (s.laneRec l).stage = .free then .ended else .aborting) ∧
          v.lane = { s.lane with lanes := tmap (fun _ x => if x.stage = .capture then
              { x with stage := .rollback, timer := none, rollbackReason := some .aborted } else x) s.lane.lanes } ∧
          (∀ c, tget v.adm.reserved c = true ↔ tget s.adm.reserved c = true ∧
            ∀ l n, (s.laneRec l).stage = .capture → (s.laneRec l).station = some n → c ∉ s.bound n) ∧
          (∀ n r, s.station n = some r → v.station n = some
            (if ∃ q ∈ s.adm.queue, q.station = n ∧ q.preCaptured = false then { r with state := .cancelled }
              else if ∃ q ∈ s.adm.queue, q.station = n then { r with preCaptured := false } else r)) ∧
          (∀ n, s.station n = none → v.station n = none) ∧
          (∀ n, (∀ l, (s.laneRec l).stage = .capture → (s.laneRec l).station ≠ some n) → v.port n = s.port n) ∧
          (∀ l n, (s.laneRec l).stage = .capture → (s.laneRec l).station = some n →
            ∀ idle, idle = (if (s.port n).dialogue = none then s.port n
                else { s.port n with dialogue := none, waiting := none }) →
              v.port n = (openDialogue n .thaw [] { s with ports := tset s.ports n idle }).1.port n) ∧
          v.outbox = s.outbox ++
            (s.adm.queue.filterMap fun q => if q.preCaptured then none else
              (s.station q.station).map fun r => stateNote q.station { r with state := .cancelled }) ++
            (allLanes.filterMap fun l => if (s.laneRec l).stage = .capture then
              ((s.laneRec l).station.bind fun n => (s.station n).map fun r => stageNote n r l .rollback) else none) ++
            if ∀ l, (s.laneRec l).stage = .free then [(.admission, .campaign
              (countStations v fun r => r.state == .done) (countStations v fun r => r.state == .declined)
              (countStations v fun r => r.state == .stranded) (countStations v fun r => r.state == .cancelled)
              (countStations v fun r => r.state == .done && r.releaseUnconfirmed))] else []))

/-- R32, R37: STATION_RETRY in RUNNING and HALTED of a STRANDED station with no entry: a pre-captured entry joins the
tail with its class, the station stays STRANDED and takes the flag; then one pass. A station outside the range, or a
class outside 0..3, is refused with BAD_FIELD before an undefined station with NOT_DEFINED: that order of the two tests
is the model's reading (log 17, DEDUCED); a campaign or station in another state is refused with WRONG_STATE, and a
station with an entry with DUPLICATE. -/
def Obligations.StationRetryQueuesTheStation : Prop :=
  (∀ (tag k x : Byte) (s : State), linkReady s → (16 ≤ k.toNat ∨ 4 ≤ x.toNat) →
    ∃ t, exec (.stationRetry tag [k, x]) s = .next t ∧ answered [] s t 0x18 tag .badField .none) ∧
  ∀ (tag x : Byte) (n : Fin 16) (s : State), linkReady s →
    (x.toNat < 4 → s.station n = none →
      ∃ t, exec (.stationRetry tag [byteOf n.val, x]) s = .next t ∧ answered [] s t 0x18 tag .notDefined .none) ∧
    (∀ r, x.toNat < 4 → s.station n = some r →
      ((s.adm.campaign ≠ .running ∧ s.adm.campaign ≠ .halted) ∨ r.state ≠ .stranded) →
      ∃ t, exec (.stationRetry tag [byteOf n.val, x]) s = .next t ∧ answered [] s t 0x18 tag .wrongState .none) ∧
    (∀ r, x.toNat < 4 → s.station n = some r → (s.adm.campaign = .running ∨ s.adm.campaign = .halted) →
      r.state = .stranded → (∃ q ∈ s.adm.queue, q.station = n) →
      ∃ t, exec (.stationRetry tag [byteOf n.val, x]) s = .next t ∧ answered [] s t 0x18 tag .duplicate .none) ∧
    ∀ (cls : Fin 4) (r : StationRec), x.toNat = cls.val → s.station n = some r →
      (s.adm.campaign = .running ∨ s.adm.campaign = .halted) → r.state = .stranded →
      (∀ q ∈ s.adm.queue, q.station ≠ n) →
      ∀ u, u = callPass { s with adm := { s.adm with
          queue := s.adm.queue ++ [{ station := n, cls := cls, preCaptured := true, passOver := 0, pinned := false,
                                     block := .none }]
          stations := tset s.adm.stations n (some { r with preCaptured := true }) } } →
        exec (.stationRetry tag [byteOf n.val, x]) s = .next (answeredWith 0x18 tag .ok
          (.retry (((u.station n).map (·.state)).getD .idle) (u.adm.queue.findIdx? fun e => e.station == n)) u)

/-- R28, R33, R37, R48, R81, R118: STATION_RELEASE of a STRANDED station, in every campaign state: its entry goes, each
bound channel takes the follow order, its reservations and its checkpoint are released, its hold-grace timer is
NOT_STARTED, the station is IDLE, with its NOTE_STATION; then one pass, and the campaign-end test when an entry was
removed. In any other state it is refused with WRONG_STATE, outside the range with BAD_FIELD, and at an undefined slot
with NOT_DEFINED. -/
def Obligations.StationReleaseFreesTheStation : Prop :=
  (∀ (tag : Byte) (n : Fin 16) (r : StationRec) (s : State), linkReady s → s.station n = some r →
    (r.state ≠ .stranded →
      ∃ t, exec (.stationRelease tag [byteOf n.val]) s = .next t ∧ answered [] s t 0x19 tag .wrongState .none) ∧
    (r.state = .stranded →
      ∀ r' w u, r' = { r with state := .idle, checkpoint := none, preCaptured := false } →
        w = callPass { follows n s with
          lane := { s.lane with grace := tset s.lane.grace n .notStarted }
          adm := { s.adm with
            queue := s.adm.queue.filter fun q => decide (q.station ≠ n)
            reserved := tmap (fun c b => b && decide (c ∉ s.bound n)) s.adm.reserved
            stations := tset s.adm.stations n (some r') }
          outbox := s.outbox ++ [stateNote n r'] } →
        u = (if ∃ q ∈ s.adm.queue, q.station = n then endTest w else w) →
        exec (.stationRelease tag [byteOf n.val]) s = .next
          (answeredWith 0x19 tag .ok (.stationState (((u.station n).map (·.state)).getD .idle)) u))) ∧
  ∀ (tag x : Byte) (s : State), linkReady s →
    (16 ≤ x.toNat → ∃ t, exec (.stationRelease tag [x]) s = .next t ∧ answered [] s t 0x19 tag .badField .none) ∧
    ∀ n : Fin 16, x.toNat = n.val → s.station n = none →
      ∃ t, exec (.stationRelease tag [x]) s = .next t ∧ answered [] s t 0x19 tag .notDefined .none

/-- R38: the gate of an admission pass: the campaign RUNNING, no active condition, time kept, and the second of day in
the window, which holds its start and not its end, runs over midnight when its end is below its start, and is always
open when they are equal; while it is closed a pass changes nothing. While a block has a change still to take, the
condition of the gate is the one that the Admission Unit, or the Lane Controller when it is ahead, has last taken (R126,
R128, R135: log 8, DEDUCED). R26: the campaign ends exactly when the queue is empty and every lane is FREE in RUNNING,
HALTED or ABORTING, with one NOTE_CAMPAIGN that counts the stations; otherwise the test changes nothing. -/
def Obligations.PassGateAndCampaignEnd : Prop :=
  ((∀ s : State, passGate s = true ↔
     s.adm.campaign = .running ∧ gateCondition s.inc = false ∧ s.time.state ≠ .unset ∧
       ∃ p x, s.adm.params = some p ∧ s.time.second = some x ∧ inWindow p x) ∧
   (∀ s : State, s.inc.toAdmission = [] → gateCondition s.inc = (s.inc.line || s.inc.hostFlag)) ∧
   (∀ (s : State) (c : Bool) (rest : List Bool), s.inc.toAdmission = c :: rest →
     (gateCondition s.inc = true ↔ c = false ∨ (s.inc.toLanes.length < s.inc.toAdmission.length ∧
       ((s.inc.toLanes = [] ∧ (s.inc.line || s.inc.hostFlag) = true) ∨ ∃ more, s.inc.toLanes = false :: more)))) ∧
   (∀ s : State, passGate s = false → callPass s = s)) ∧
  (∀ s : State,
     ((s.adm.queue = [] ∧ (∀ l, (s.laneRec l).stage = .free) ∧
         (s.adm.campaign = .running ∨ s.adm.campaign = .halted ∨ s.adm.campaign = .aborting)) →
       endTest s = { s with
         adm := { s.adm with campaign := .ended }
         outbox := s.outbox ++ [(.admission, .campaign
           (Finset.univ.filter fun n => s.stationState n = some .done).card
           (Finset.univ.filter fun n => s.stationState n = some .declined).card
           (Finset.univ.filter fun n => s.stationState n = some .stranded).card
           (Finset.univ.filter fun n => s.stationState n = some .cancelled).card
           (Finset.univ.filter fun n => ∃ r, s.station n = some r ∧ r.state = .done ∧
             r.releaseUnconfirmed = true).card)] }) ∧
     (¬(s.adm.queue = [] ∧ (∀ l, (s.laneRec l).stage = .free) ∧
         (s.adm.campaign = .running ∨ s.adm.campaign = .halted ∨ s.adm.campaign = .aborting)) → endTest s = s))

/-- R35, R39 to R42, R49, R50. Rank order is class descending, then queue position. An entry is tested for a FAULTED
port; then, unless it is pre-captured, for a settle-until point in a zone it touches, for a pinned entry ranked above
that shares a zone with it, and for the cover of each zone. A pass that finds a lane free and admits nobody records the
block reason of each entry. A pass whose lowest-ranked entry alone passes its tests admits it to the least free lane in
use: an ordinary one with its channels reserved and FREEZE opened, a pre-captured one into RESTART; the entries above it
that failed the cover test are passed over once more, and pinned at the limit. A pass goes on after an admission while a
lane is FREE: the entries below are tested with the reservations and the pins gained so far, and a second admission
passes over the entries above it that failed the cover test before it, those ranked above the first one included. The
case of one ordinary entry is spelled out. Every pass, with any number of admissions, is such a run: one that ends with
no lane FREE leaves the entries it has not reached as they are, their block reasons with them. An ordinary entry
admitted while the condition is active goes through CAPTURE to ROLLBACK in the same event (R53, log 12), and the release
of its reservations calls one more pass (log 10). -/
def Obligations.PassAdmitsUnderTheCoverTest : Prop :=
  (∀ q : List QueueEntry, (rankOrder q).Perm q ∧ (rankOrder q).Pairwise (fun a b => b.cls ≤ a.cls) ∧
     ∀ c : Fin 4, ((rankOrder q).filter fun e => decide (e.cls = c)) = q.filter fun e => decide (e.cls = c)) ∧
  (∀ (s : State) (above : List (Fin 16)) (e : QueueEntry),
     ((s.port e.station).faulted = true → entryTest s above e = some .portFault) ∧
     ((s.port e.station).faulted = false → e.preCaptured = true → entryTest s above e = none) ∧
     ((s.port e.station).faulted = false → e.preCaptured = false →
       ((∃ z, s.touches e.station z = true ∧ tget s.adm.settle z ≠ none) → entryTest s above e = some .settle) ∧
       ((∀ z, s.touches e.station z = true → tget s.adm.settle z = none) →
         ((∃ q ∈ s.adm.queue, q.pinned = true ∧ q.station ∈ above ∧
             ∃ z, s.touches q.station z = true ∧ s.touches e.station z = true) → entryTest s above e = some .pin) ∧
         ((∀ q ∈ s.adm.queue, q.pinned = true → q.station ∈ above →
             ∀ z, ¬(s.touches q.station z = true ∧ s.touches e.station z = true)) →
           ((∀ z, 0 < s.cap e.station z → 1000 * (reservedCapacity s z + s.cap e.station z) ≤
               ((s.zonePlan z).map (·.holdLimit)).getD 0 * s.total z) → entryTest s above e = none) ∧
           ((∃ z, 0 < s.cap e.station z ∧ ((s.zonePlan z).map (·.holdLimit)).getD 0 * s.total z <
               1000 * (reservedCapacity s z + s.cap e.station z)) → entryTest s above e = some .cover))))) ∧
  (∀ s : State, passGate s = true → (s.adm.queue.map (·.station)).Nodup →
     (∀ e ∈ s.adm.queue, entryTest s (rankedAbove s.adm.queue e.station) e ≠ none) →
     ((∃ l p, s.adm.params = some p ∧ l.val < p.lanesInUse ∧ (s.laneRec l).stage = .free) →
       callPass s = { s with adm := { s.adm with queue := blocked s s.adm.queue false 0 } }) ∧
     ((∀ l p, s.adm.params = some p → l.val < p.lanesInUse → (s.laneRec l).stage ≠ .free) → callPass s = s)) ∧
  (∀ (y : QueueEntry) (r : StationRec) (sp : StationPlan) (p : CampaignParams) (l : Fin 4) (s : State),
     passGate s = true → condition s.inc = false → s.adm.params = some p → (s.adm.queue.map (·.station)).Nodup →
     (rankOrder s.adm.queue).getLast? = some y → s.station y.station = some r → s.stationPlan y.station = some sp →
     l.val < p.lanesInUse → (s.laneRec l).stage = .free → (∀ k < l, (s.laneRec k).stage ≠ .free) →
     (∀ k, (s.laneRec k).station ≠ some y.station) →
     (∀ e ∈ s.adm.queue, e.station ≠ y.station → entryTest s (rankedAbove s.adm.queue e.station) e ≠ none) →
     entryTest s (rankedAbove s.adm.queue y.station) y = none →
     callPass s = admits l y sp r { s with adm := { s.adm with
       queue := blocked s (s.adm.queue.filter fun e => decide (e.station ≠ y.station)) true p.passOverLimit } }) ∧
  (∀ (a b c : List QueueEntry) (y z : QueueEntry) (r r' : StationRec) (sp sp' : StationPlan) (p : CampaignParams)
     (l l' : Fin 4) (s s' : State),
     passGate s = true → condition s.inc = false → s.adm.params = some p → (s.adm.queue.map (·.station)).Nodup →
     rankOrder s.adm.queue = a ++ y :: b ++ z :: c → s.station y.station = some r → s.stationPlan y.station = some sp →
     s.station z.station = some r' → s.stationPlan z.station = some sp' → l < l' → l'.val < p.lanesInUse →
     (∀ k ≤ l', (s.laneRec k).stage = .free ↔ k = l ∨ k = l') →
     (∀ k, (s.laneRec k).station ≠ some y.station ∧ (s.laneRec k).station ≠ some z.station) →
     (∀ e ∈ a, entryTest s (rankedAbove s.adm.queue e.station) e ≠ none) →
     entryTest s (rankedAbove s.adm.queue y.station) y = none →
     s' = admits l y sp r { s with adm := { s.adm with
       queue := overtakes s y.station (a.map (·.station)) p.passOverLimit } } →
     (∀ e ∈ b, entryTest s' (rankedAbove s'.adm.queue e.station) e ≠ none) →
     entryTest s' (rankedAbove s'.adm.queue z.station) z = none →
     (c = [] ∨ ∀ k, l' < k → k.val < p.lanesInUse → (s.laneRec k).stage ≠ .free) →
     callPass s = admits l' z sp' r' { s' with adm := { s'.adm with
       queue := (overtakes s' z.station (b.map (·.station)) p.passOverLimit).map fun e =>
         if e.station ∈ a.map (·.station) ∧ entryTest s (rankedAbove s.adm.queue e.station) e = some .cover then
           overtaken p.passOverLimit e else e } }) ∧
  (∀ (e : QueueEntry) (r : StationRec) (p : CampaignParams) (l : Fin 4) (s : State), passGate s = true →
    condition s.inc = false → s.adm.params = some p → s.adm.queue = [e] → e.preCaptured = false →
    s.station e.station = some r → (s.port e.station).faulted = false → (s.port e.station).sending = none →
    l.val < p.lanesInUse → (s.laneRec l).stage = .free →
    (∀ k < l, (s.laneRec k).stage ≠ .free) →
    (∀ z, s.touches e.station z = true → tget s.adm.settle z = none) →
    ((∀ z, 0 < s.cap e.station z →
        1000 * (reservedCapacity s z + s.cap e.station z) ≤ ((s.zonePlan z).map (·.holdLimit)).getD 0 * s.total z) →
      ∃ t, callPass s = t ∧ keepsBut [.adm, .lane, .ports, .outbox] s t ∧
        t.adm = { s.adm with
          queue := [], reserved := t.adm.reserved
          stations := tset s.adm.stations e.station
            (some { r with state := .active, cls := e.cls, attempts := 0, alignAttempts := 0 }) } ∧
        (∀ c, tget t.adm.reserved c = (decide (c ∈ s.bound e.station) || tget s.adm.reserved c)) ∧
        t.lane = { s.lane with lanes := t.lane.lanes } ∧ (∀ k, k ≠ l → t.laneRec k = s.laneRec k) ∧
        t.laneRec l = { stage := .capture, station := some e.station, timer := none, matchCount := 0,
                        mode := if r.checkpoint = none then .cold else .warm, releaseSends := 0,
                        seenReadyLow := false, rollbackReason := none } ∧
        ((∀ k, (s.laneRec k).station ≠ some e.station) →
          t.outbox = s.outbox ++ [(.lanes, .station e.station .active (some (l, .capture)) r.lastReason)]) ∧
        ∃ x, t.ports = tset s.ports e.station { s.port e.station with
          sending := some x, dialogue := some { kind := .freeze, body := [], transmit := .sending, timer := none } } ∧
          x.bytes = 0x5A :: byteOf e.station.val :: 1 :: 0 ::
            bytes2 (crc [byteOf e.station.val, 1, 0]).toNat) ∧
    ((∃ z, 0 < s.cap e.station z ∧
        ((s.zonePlan z).map (·.holdLimit)).getD 0 * s.total z <
          1000 * (reservedCapacity s z + s.cap e.station z)) →
      callPass s = { s with adm := { s.adm with queue := [{ e with block := .cover }] } })) ∧
  (∀ (p : CampaignParams) (s : State), passGate s = true → s.adm.params = some p →
     (s.adm.queue.map (·.station)).Nodup →
     (∀ e ∈ s.adm.queue, s.station e.station ≠ none ∧ s.stationPlan e.station ≠ none ∧
       ∀ k, (s.laneRec k).station ≠ some e.station) →
     ∃ admitted rest t, rankOrder s.adm.queue = (admitted.flatMap fun x => x.1 ++ [x.2]) ++ rest ∧
       passRuns p.passOverLimit rest t [] admitted s ∧
       ((∀ l, ¬leastFree t l) → ∀ e ∈ rest, e ∈ t.adm.queue) ∧
       callPass s =
         callPass^[if (s.inc.line || s.inc.hostFlag) = true then
           (admitted.filter fun x => decide (x.2.preCaptured = false)).length else 0] t)

/-! ### The sensor scan -/

/-- R99, R101: SCAN_CONFIG is BUSY while a scan runs; otherwise it stores a configuration whose mode and trigger
agree, clamped, restarts or stops the period timer, and makes an input whose age exceeds the new stale limit invalid.
SENSOR_SCAN is refused in CYCLIC mode and while a scan runs, and otherwise starts one. -/
def Obligations.ScanRequestsConfigureAndStart : Prop :=
  ∀ (tag : Byte) (body : List Byte) (f : ScanFields) (s : State), linkReady s → readScanFields body = some f →
    (s.scan.scanning = true →
      (∃ t, exec (.scanConfig tag body) s = .next t ∧ answered [] s t 0x30 tag .busy .none) ∧
      (s.scan.config.mode ≠ .cyclic →
        ∃ t, exec (.sensorScan tag []) s = .next t ∧ answered [] s t 0x31 tag .busy .none)) ∧
    (s.scan.scanning = false → ∀ (m : ScanMode) (tr : Trigger) (i : Fin 8), scanModeOf f.mode = some m →
      triggerOf f.trigger = some tr → f.single = i.val →
      ((m = .cyclic ∧ tr = .request) ∨ (m ≠ .cyclic ∧ tr ≠ .request) →
        ∃ t, exec (.scanConfig tag body) s = .next t ∧ answered [] s t 0x30 tag .badField .none) ∧
      ((m = .cyclic ↔ tr ≠ .request) →
        ∃ t c limit, exec (.scanConfig tag body) s = .next t ∧
          c = { mode := m, trigger := tr, period := max 100 (min 5000 f.period), count := max 1 (min 8 f.count)
                single := i } ∧
          limit = (if tr = .period then 3 * c.period else if tr = .mark then 3000 else 5000) ∧
          answered [.scan] s t 0x30 tag .ok (.scanConfig c) ∧
          t.scan = { s.scan with
            config := c
            timer := if tr = .period then some (s.now + c.period * 16000) else none
            inputs := t.scan.inputs } ∧
          ∀ j, t.input j =
            if (s.input j).valid = true ∧ ∃ a, (s.input j).ageFrom = some a ∧ limit * 16000 < s.now - a then
              { s.input j with valid := false, seedPending := true }
            else s.input j)) ∧
    ((3 ≤ f.mode ∨ 3 ≤ f.trigger ∨ 8 ≤ f.single) → s.scan.scanning = false →
      ∃ t, exec (.scanConfig tag body) s = .next t ∧ answered [] s t 0x30 tag .badField .none) ∧
    (s.scan.config.mode = .cyclic →
      ∃ t, exec (.sensorScan tag []) s = .next t ∧ answered [] s t 0x31 tag .wrongState .none) ∧
    (s.scan.config.mode = .single → s.scan.scanning = false →
      (s.sensorPlan s.scan.config.single = none →
        ∃ t, exec (.sensorScan tag []) s = .next t ∧ answered [] s t 0x31 tag .notDefined .none) ∧
      ∀ p, s.sensorPlan s.scan.config.single = some p →
        (p.kind = .unused →
          ∃ t, exec (.sensorScan tag []) s = .next t ∧ answered [] s t 0x31 tag .wrongState .none) ∧
        (p.kind ≠ .unused →
          ∃ t, exec (.sensorScan tag []) s = .next t ∧ answered [.scan] s t 0x31 tag .ok .none ∧
            t.scan = { s.scan with scanning := true, index := s.scan.config.single
                                   conversionEnd := some (s.now + 32000), discard := false })) ∧
    (s.scan.config.mode = .sequence → s.scan.scanning = false →
      ∃ t, exec (.sensorScan tag []) s = .next t ∧ answered [.scan] s t 0x31 tag .ok .none ∧
        scanGoesOn (s.now) 0 s.scan s t)

/-- R100, R102, R105, R106, R107: the period timer restarts at its expiry, which starts a sequence when the scan is
IDLE. A completed conversion of a convertible input gives its record the raw value with age 0; below the broken limit
the input is broken and invalid, otherwise its value is scaled and filtered; a discarded conversion reaches no record.
The sequence then goes on at the next convertible input, or completes. A valid input whose age exceeds the stale limit
becomes invalid, and its values stay. That INPUT_STALE falls one tick past the limit is the model's reading (log 30,
DEDUCED); that an expiry with no timer running, a completion with no conversion in progress, and a stale event of an
invalid input change nothing is the model's choice (log 26). -/
def Obligations.ScanEventsConvertTheInputs : Prop :=
  (∀ (s : State) (d : Nat),
     (s.scan.timer = some d →
       ∃ t, exec .scanPeriodExpiry s = .next t ∧ keepsBut [.scan, .link, .outbox, .free] (reach d s) t ∧
         (s.scan.scanning = true →
           t.scan = { s.scan with timer := some (max s.now d + s.scan.config.period * 16000) }) ∧
         (s.scan.scanning = false →
           scanGoesOn (max s.now d) 0
             { s.scan with timer := some (max s.now d + s.scan.config.period * 16000) } s t)) ∧
     (∀ raw : BitVec 12, s.scan.scanning = true → s.scan.conversionEnd = some d →
       ∃ t inputs, exec (.conversionComplete raw) s = .next t ∧
         keepsBut [.pins, .scan, .link, .outbox, .free] (reach d s) t ∧
         t.pins = { s.pins with analog := tset s.pins.analog s.scan.index raw } ∧
         (∀ j, j ≠ s.scan.index → tget inputs j = s.input j) ∧
         (s.scan.discard = true → tget inputs s.scan.index = s.input s.scan.index) ∧
         ((s.sensorPlan s.scan.index = none ∨ ∃ p, s.sensorPlan s.scan.index = some p ∧ p.kind = .unused) →
           tget inputs s.scan.index = s.input s.scan.index) ∧
         (∀ p, s.scan.discard = false → s.sensorPlan s.scan.index = some p → p.kind ≠ .unused →
           (raw.toNat < p.rawBroken →
             tget inputs s.scan.index = { s.input s.scan.index with
               raw := some raw.toNat, ageFrom := some (max s.now d), broken := true, valid := false
               seedPending := true }) ∧
           (p.rawBroken ≤ raw.toNat →
             ∃ v w, tget inputs s.scan.index = { raw := some raw.toNat, value := some v, filtered := some w
                                                 broken := false, valid := true, seedPending := false
                                                 ageFrom := some (max s.now d) } ∧
               v = p.valueLo + ((max p.rawLo (min p.rawHi raw.toNat) - p.rawLo) * (p.valueHi - p.valueLo) +
                 (p.rawHi - p.rawLo) / 2) / (p.rawHi - p.rawLo) ∧
               (((s.input s.scan.index).seedPending = true ∨ (s.input s.scan.index).filtered = none) → w = v) ∧
               ∀ y, (s.input s.scan.index).seedPending = false → (s.input s.scan.index).filtered = some y →
                 w = if y ≤ v then y + (v - y) / 2 ^ p.shift else y - (y - v) / 2 ^ p.shift)) ∧
         (s.scan.config.mode = .single →
           t.scan = { s.scan with scanning := false, index := 0, conversionEnd := none, discard := false
                                  inputs := inputs }) ∧
         (s.scan.config.mode ≠ .single →
           scanGoesOn (max s.now d) (s.scan.index.val + 1) { s.scan with inputs := inputs } s t)) ∧
     (∀ raw : BitVec 12, s.scan.scanning = false →
       ∃ t, exec (.conversionComplete raw) s = .next t ∧ keepsBut [.link, .outbox, .free] s t) ∧
     (s.scan.timer = none → ∃ t, exec .scanPeriodExpiry s = .next t ∧ keepsBut [.link, .outbox, .free] s t)) ∧
  (∀ (i : Fin 8) (s : State),
     (∀ a limit, (s.input i).valid = true → (s.input i).ageFrom = some a →
       limit = (match s.scan.config.mode, s.scan.config.trigger with
         | .cyclic, .period => 3 * s.scan.config.period
         | .cyclic, .mark => 3000
         | _, _ => 5000) →
       ∃ t, exec (.inputStale i) s = .next t ∧
         keepsBut [.scan, .link, .outbox, .free] (reach (a + limit * 16000 + 1) s) t ∧
         t.scan = { s.scan with
           inputs := tset s.scan.inputs i { s.input i with valid := false, seedPending := true } }) ∧
     (((s.input i).valid = false ∨ (s.input i).ageFrom = none) →
       ∃ t, exec (.inputStale i) s = .next t ∧ keepsBut [.link, .outbox, .free] s t))

/-- R105, R106: a scaled value lies in the value range, takes its ends at the ends of the raw range, rises with the
raw value and lies within half a unit of the exact line; a filter step moves toward the value without passing it. R112
to R115: the demand of a LIGHT zone is the least whole level that is at least luminance times k over Lfull, at most
1000; a VENT input between its thresholds demands its share, rounded up; the demand of a VENT
zone is the greatest of the base level, the shares of its valid inputs, and, with an invalid input, the blind level; no
demand lies below the base level, nor, with an invalid input, below the blind level. -/
def Obligations.SensorAndDemandFormulas : Prop :=
  ((∀ (p : SensorPlan) (a b : Nat), p.rawLo < p.rawHi → p.valueLo < p.valueHi →
     p.valueLo ≤ scaled p a ∧ scaled p a ≤ p.valueHi ∧ (a ≤ p.rawLo → scaled p a = p.valueLo) ∧
       (p.rawHi ≤ a → scaled p a = p.valueHi) ∧ (a ≤ b → scaled p a ≤ scaled p b) ∧
       (p.rawLo ≤ a → a ≤ p.rawHi →
         |(scaled p a : ℚ) -
             (p.valueLo + ((a : ℚ) - p.rawLo) * ((p.valueHi : ℚ) - p.valueLo) / ((p.rawHi : ℚ) - p.rawLo))| ≤ 1 / 2)) ∧
   ∀ shift y v : Nat, (y ≤ v → y ≤ filterStep shift y v ∧ filterStep shift y v ≤ v) ∧
     (v ≤ y → v ≤ filterStep shift y v ∧ filterStep shift y v ≤ y) ∧ filterStep 0 y v = v) ∧
  (∀ (s : State) (p : ZonePlan),
     p.baseLevel ≤ demandOf s p ∧
     (p.law = .none → demandOf s p = p.baseLevel) ∧
     (∀ i k lf, p.law = .light i k lf → 0 < lf →
       ((s.input i).valid = true → ∀ y, (s.input i).filtered = some y →
         (demandOf s p : ℤ) = max (p.baseLevel : ℤ) (min 1000 ⌈((y * k : Nat) : ℚ) / lf⌉)) ∧
       ((s.input i).valid = false → demandOf s p = max p.baseLevel p.blindLevel)) ∧
     (∀ co coLow coHigh ext extLow extHigh, p.law = .vent co coLow coHigh ext extLow extHigh →
       (∀ share : Option (Fin 8) → Nat → Nat → ℤ, share = (fun input low high =>
           match input with
           | some i =>
             if (s.input i).valid then
               max 0 (min 1000 ⌈(((s.input i).filtered.getD 0 : Nat) - (low : ℚ)) * 1000 / ((high : ℚ) - low)⌉)
             else 0
           | none => 0) →
         (co ≠ none → coLow < coHigh) → (ext ≠ none → extLow < extHigh) →
         ((∀ i, (co = some i ∨ ext = some i) → (s.input i).valid = true) →
           (demandOf s p : ℤ) = max (p.baseLevel : ℤ) (max (share co coLow coHigh) (share ext extLow extHigh))) ∧
         ((∃ i, (co = some i ∨ ext = some i) ∧ (s.input i).valid = false) →
           (demandOf s p : ℤ) = max (max (p.baseLevel : ℤ) p.blindLevel)
             (max (share co coLow coHigh) (share ext extLow extHigh)))) ∧
       ((∃ i, (co = some i ∨ ext = some i) ∧ (s.input i).valid = false) → p.blindLevel ≤ demandOf s p) ∧
       (∀ i y, co = some i → (s.input i).valid = true → (s.input i).filtered = some y → coLow < coHigh →
         (coHigh ≤ y → 1000 ≤ demandOf s p) ∧
         (coLow ≤ y → y ≤ coHigh → ((y : ℚ) - coLow) * 1000 / ((coHigh : ℚ) - coLow) ≤ demandOf s p)) ∧
       (∀ i, co = some i → ext = none → (s.input i).valid = true → ∀ y, (s.input i).filtered = some y →
         coLow ≤ y → y ≤ coHigh → coLow < coHigh →
         (demandOf s p : ℤ) = max (p.baseLevel : ℤ) ⌈((y : ℚ) - coLow) * 1000 / ((coHigh : ℚ) - coLow)⌉) ∧
       (∀ i, ext = some i → co = none → (s.input i).valid = true → ∀ y, (s.input i).filtered = some y →
         extLow ≤ y → y ≤ extHigh → extLow < extHigh →
         (demandOf s p : ℤ) = max (p.baseLevel : ℤ) ⌈((y : ℚ) - extLow) * 1000 / ((extHigh : ℚ) - extLow)⌉)))

/-! ### The Time Base -/

/-- R162: TIME_MARK with a second of day below 86,400 becomes the pending mark, and nothing else of the record changes.
R94, R96, R145, R154, R180: CHANNEL_CLEAR_FAULT clears a latched OVERLOAD, with a NOTE_CHANNEL, unless its condition
still holds, and in a driven mode switches the output stage on; PORT_RESET is BUSY while a dialogue is open and
otherwise returns the port to ONLINE with its counters at 0, with a NOTE_PORT when it was FAULTED, and calls a pass;
NOTICE_ENABLE replaces the enable set whole. A channel or a port outside its range is refused with BAD_FIELD. The load
current given with CHANNEL_CLEAR_FAULT is the one its detector sees (log 2). -/
def Obligations.TimeMarkAndSingleBlockRequests : Prop :=
  (∀ (tag : Byte) (body : List Byte) (d x : Nat) (s : State), linkReady s → readMark body = some (d, x) →
     (86400 ≤ x → ∃ t, exec (.timeMark tag body) s = .next t ∧ answered [] s t 0x32 tag .badField .none) ∧
     (x < 86400 →
       ∃ t, exec (.timeMark tag body) s = .next t ∧
         answered [.time] s t 0x32 tag .ok (.timeMark s.time.state (some (d, x)) (tunnelTime s)) ∧
         t.time = { s.time with mark := some (d, x) })) ∧
  (∀ (tag : Byte) (s : State), linkReady s →
     (∀ (c : Fin 32) (current : Nat),
       let high := ∃ p, s.channelPlan c = some p ∧ (if p.threshold = .low then 200 else 400) < current
       ((s.channel c).overload = true → high →
         ∃ t, exec (.channelClearFault tag [byteOf c.val] current) s = .next t ∧
           answered [.pins] s t 0x35 tag .wrongState .none ∧
           t.pins = { s.pins with loadCurrent := tset s.pins.loadCurrent c current }) ∧
       ((s.channel c).overload = true → ¬high →
         ∀ x, x = { s.channel c with
             overload := false, stage := decide ((s.channel c).mode ≠ .follow), overloadProgress := 0 } →
           exec (.channelClearFault tag [byteOf c.val] current) s =
             .next (answeredWith 0x35 tag .ok (.faults false x.openFlag x.stage) { s with
               pins := { s.pins with loadCurrent := tset s.pins.loadCurrent c current }
               chan := { s.chan with channels := tset s.chan.channels c x }
               outbox := s.outbox ++
                 [(.channels, .channel c .overload false false x.openFlag x.mode x.level x.stage)] })) ∧
       ((s.channel c).overload = false →
         ∃ t, exec (.channelClearFault tag [byteOf c.val] current) s = .next t ∧
           answered [.pins] s t 0x35 tag .ok (.faults false (s.channel c).openFlag (s.channel c).stage) ∧
           t.pins = { s.pins with loadCurrent := tset s.pins.loadCurrent c current })) ∧
     (∀ n : Fin 16,
       ((s.port n).dialogue ≠ none →
         ∃ t, exec (.portReset tag [byteOf n.val]) s = .next t ∧ answered [] s t 0x36 tag .busy .none) ∧
       ((s.port n).dialogue = none →
         ∀ q u, q = { s.port n with
             faulted := false, consecutive := 0, parity := 0, framing := 0, bad := 0, unexpected := 0, late := 0
             timeouts := 0, lateRecord := none } →
           u = callPass { s with
             ports := tset s.ports n q
             outbox := s.outbox ++ if (s.port n).faulted then [(.ports, .port n false 0 0 0 0 0 0 0)] else [] } →
           exec (.portReset tag [byteOf n.val]) s = .next (answeredWith 0x36 tag .ok
             (.portRecord n (u.port n) ((u.port n).rate.map divisorError)
               (((u.port n).dialogue.bind fun d => d.timer).map fun d => d - s.now)) u))) ∧
     ∀ x : Byte,
       (32 ≤ x.toNat → ∀ current,
         ∃ t, exec (.channelClearFault tag [x] current) s = .next t ∧ answered [] s t 0x35 tag .badField .none) ∧
       (16 ≤ x.toNat → ∃ t, exec (.portReset tag [x]) s = .next t ∧ answered [] s t 0x36 tag .badField .none) ∧
       (128 ≤ x.toNat →
         ∃ t, exec (.noticeEnable tag [x]) s = .next t ∧ answered [] s t 0x37 tag .badField .none) ∧
       (x.toNat < 128 →
         ∃ t, exec (.noticeEnable tag [x]) s = .next t ∧ keepsBut [.link, .outbox, .free] s t ∧
           t.link.core = { s.link with
             enable := x.setWidth 7, slot := some (Reply.mk 0xB7 tag .ok (.enableSet (x.setWidth 7))) }.core))

/-- R156 to R160, R163, R164, R167, R170: a pulse in HOLDOVER ends it; the first pulse has no interval; otherwise an
interval below 15,992,000 ticks is a GLITCH that only counts, one up to 16,008,000 is GOOD and joins the sample set, a
longer one is LATE and empties it. An accepted pulse becomes the last boundary, applies a pending mark or advances the
second of day, and restarts the watchdog while time is kept; while no campaign is RUNNING its one notice is a NOTE_TIME
for an applied mark or a change of the time state, with its cause. It hands the second to the Admission Unit, with one
pass where the time state leaves UNSET or the campaign window opens (R37, R38, R169; one pass for both is log 21,
DEDUCED), and in CYCLIC mode with trigger MARK it starts a sequence of an IDLE scan (R102). What the sample set holds
after a holdover has begun is the model's reading (log 36, DEDUCED). -/
def Obligations.PulsesAreClassedAndTaken : Prop :=
  ∀ (after : Nat) (s u : State), TimeInv s.time → u = advance after s →
    ∃ t, exec (.secondMarkPulse after) s = .next t ∧
      keepsBut [.scan, .adm, .lane, .chan, .reg, .ports, .time, .link, .outbox, .free] u t ∧
      (s.adm.campaign ≠ .running → keepsBut [.scan, .time, .link, .outbox, .free] u t) ∧
      (s.scan.config.trigger ≠ .mark → t.scan = s.scan) ∧
      (∀ b, s.time.state ≠ .holdover → s.time.last = some b → u.now - b.1 < 15992000 →
        t.time = { s.time with glitches := min 65535 (s.time.glitches + 1) } ∧
          keepsBut [.time, .link, .outbox, .free] u t ∧ (s.outbox = [] → noted s t [])) ∧
      ∀ (samples : List Nat) (k : Nat) (st : TimeState),
        ((s.time.last = none ∧ samples = s.time.samples ∧ k = 0) ∨
          (∃ b, s.time.state ≠ .holdover ∧ s.time.last = some b ∧ 15992000 ≤ u.now - b.1 ∧ u.now - b.1 ≤ 16008000 ∧
            samples = s.time.samples.drop (s.time.samples.length - 7) ++ [u.now - b.1] ∧ k = 1) ∨
          (∃ b, s.time.state ≠ .holdover ∧ s.time.last = some b ∧ 16008000 < u.now - b.1 ∧ samples = [] ∧
            k = (u.now - b.1 + s.time.rateP / 2) / s.time.rateP) ∨
          (∃ b, s.time.state = .holdover ∧ s.time.last = some b ∧ samples = [] ∧
            k = if u.now - b.1 < s.time.rateP / 2 then 0 else 1)) →
        st = (match s.time.state with
          | .unset => if s.time.mark = none then .unset else if samples.length = 8 then .fine else .coarse
          | .coarse => if samples.length = 8 then .fine else .coarse
          | .fine => if samples = [] then .coarse else .fine
          | .holdover => .coarse) →
        t.time = { s.time with
          state := st, last := some (u.now, .pulse), samples := samples, mark := none
          rateP := if samples = [] then 16000000 else samples.sum / samples.length
          watchdog := if st = .unset then s.time.watchdog else some (u.now + 32000000)
          holdover := if s.time.state = .holdover then none else s.time.holdover
          nextGenerated := if s.time.state = .holdover then none else s.time.nextGenerated
          day := t.time.day, second := t.time.second } ∧
        (∀ m, s.time.mark = some m → t.time.day = some m.1 ∧ t.time.second = some m.2) ∧
        (s.time.mark = none → s.time.state = .unset → t.time.day = none ∧ t.time.second = none) ∧
        (∀ d x, s.time.mark = none → s.time.day = some d → s.time.second = some x →
          t.time.day = some ((d + (x + k) / 86400) % 65536) ∧ t.time.second = some ((x + k) % 86400)) ∧
        ∀ (notes : List Notice) (now' before : Option (Nat × Nat)) (note : TimeCause → Notice),
          now' = t.time.day.bind (fun d => t.time.second.map fun x => (d, x)) →
          before = s.time.day.bind (fun d => s.time.second.map fun x => (d, x)) →
          note = (fun cause => .time st s.time.state cause now'
            (if cause = .markApplied ∧ s.time.state ≠ .unset then before else none) t.time.rateP samples.length) →
          notes = (if s.time.mark ≠ none then [note .markApplied]
            else if st = s.time.state then []
            else match s.time.state with
              | .holdover => [note .pulseReturned]
              | .fine => [note .latePulse]
              | _ => [note .eighthSample]) →
          (s.adm.campaign ≠ .running → s.outbox = [] → noted s t notes) ∧
          secondHanded s.time
            { u with time := t.time, outbox := s.outbox ++ notes.map fun n => (.time, n) } t

/-- R165, R166, R168, R170: at the watchdog's expiry the whole periods that fit into 2 s are credited, HOLDOVER begins
with a holdover timer of 900 s, and the next boundary is generated; a generated boundary advances the second by 1 and
sets the next one P later; at the holdover timer's expiry tunnel time is given up. The watchdog's and the holdover
timer's expiries emit a NOTE_TIME, a generated boundary none. The crediting and each generated boundary hand the second
to the Admission Unit, with a pass where the campaign window opens (R37, R38, R169), and are MARK triggers (R102). That
the sample set stays as it is through holdover is the model's reading of R165 and R166 (log 36, DEDUCED); that the three
expiries change nothing with no timer running is its choice (log 26). -/
def Obligations.TimeExpiriesAreTaken : Prop :=
  ∀ (s : State) (d : Nat), TimeInv s.time →
    (∀ b k x y, s.time.watchdog = some d → s.time.last = some b → s.time.day = some x → s.time.second = some y →
      k = 32000000 / s.time.rateP →
      ∃ t, exec .markWatchdogExpiry s = .next t ∧
        keepsBut [.scan, .adm, .lane, .chan, .reg, .ports, .time, .link, .outbox, .free] (reach d s) t ∧
        (s.adm.campaign ≠ .running → keepsBut [.scan, .time, .link, .outbox, .free] (reach d s) t) ∧
        t.time = { s.time with
          state := .holdover, last := some (b.1 + k * s.time.rateP, .generated), watchdog := none
          holdover := some (max s.now d + 14400000000)
          nextGenerated := some (b.1 + k * s.time.rateP + s.time.rateP)
          day := some ((x + (y + k) / 86400) % 65536), second := some ((y + k) % 86400) } ∧
        ∀ note, note = Notice.time .holdover s.time.state .watchdog
            (some ((x + (y + k) / 86400) % 65536, (y + k) % 86400)) none s.time.rateP s.time.samples.length →
          (s.adm.campaign ≠ .running → s.outbox = [] → noted s t [note]) ∧
          secondHanded s.time { reach d s with time := t.time, outbox := s.outbox ++ [(.time, note)] } t) ∧
    (∀ x y, s.time.nextGenerated = some d → s.time.day = some x → s.time.second = some y →
      ∃ t, exec .generatedBoundary s = .next t ∧
        keepsBut [.scan, .adm, .lane, .chan, .reg, .ports, .time, .link, .outbox, .free] (reach d s) t ∧
        (s.adm.campaign ≠ .running → keepsBut [.scan, .time, .link, .outbox, .free] (reach d s) t) ∧
        t.time = { s.time with
          last := some (d, .generated), nextGenerated := some (d + s.time.rateP)
          day := some ((x + (y + 1) / 86400) % 65536), second := some ((y + 1) % 86400) } ∧
        (s.adm.campaign ≠ .running → s.outbox = [] → noted s t []) ∧
        secondHanded s.time { reach d s with time := t.time } t) ∧
    (s.time.holdover = some d →
      ∃ t, exec .holdoverExpiry s = .next t ∧ keepsBut [.time, .link, .outbox, .free] (reach d s) t ∧
        t.time = { s.time with
          state := .unset, day := none, second := none, last := none, nextGenerated := none, samples := []
          rateP := 16000000, holdover := none } ∧
        (s.outbox = [] → noted s t [.time .unset s.time.state .holdoverExpired none none 16000000 0])) ∧
    (s.time.watchdog = none → s.time.nextGenerated = none → s.time.holdover = none →
      ∃ t, exec .markWatchdogExpiry s = .next t ∧ exec .generatedBoundary s = .next t ∧
        exec .holdoverExpiry s = .next t ∧ keepsBut [.link, .outbox, .free] s t)

/-! ### Incidents -/

/-- R123, R124, R125: INCIDENT_DECLARE sets and INCIDENT_CLEAR clears the host-declared flag, and the line change
toggles the deglitched state; a change of the condition is handed to the three blocks and reported once, and a change
of one source that leaves the condition reaches no block. -/
def Obligations.IncidentSourcesFormTheCondition : Prop :=
  ∀ (tag : Byte) (s : State),
    (linkReady s → ∀ v : Bool,
      exec (if v then .incidentDeclare tag [] else .incidentClear tag []) s =
        .next (answeredWith (if v then 0x33 else 0x34) tag .ok (.incident (s.inc.line || v) s.inc.line v)
          (if (s.inc.line || v) = (s.inc.line || s.inc.hostFlag) then { s with inc := { s.inc with hostFlag := v } }
          else { s with
            inc := { s.inc with hostFlag := v, toAdmission := s.inc.toAdmission ++ [v], toLanes := s.inc.toLanes ++ [v]
                                toChannels := s.inc.toChannels ++ [v] }
            outbox := s.outbox ++ [(.incident, .incident v s.inc.line v)] }))) ∧
    (s.outbox = [] →
      ∃ t, exec .incidentLineChange s = .next t ∧ keepsBut [.pins, .inc, .link, .outbox, .free] s t ∧
        t.pins = { s.pins with incident := !s.inc.line } ∧
        (s.inc.hostFlag = true → t.inc = { s.inc with line := !s.inc.line, lineCount := 0 } ∧ noted s t []) ∧
        (s.inc.hostFlag = false →
          t.inc = { s.inc with
            line := !s.inc.line, lineCount := 0, toAdmission := s.inc.toAdmission ++ [!s.inc.line]
            toLanes := s.inc.toLanes ++ [!s.inc.line], toChannels := s.inc.toChannels ++ [!s.inc.line] } ∧
          noted s t [.incident (!s.inc.line) (!s.inc.line) false]))

/-- R126, R133, R135: the Admission Unit takes the change to active with its state left as it stands and the change to
inactive with a pass; the Lane Controller takes the change to inactive with no lane changed. R128 to R130: at the change
to active a lane in CAPTURE whose port is ONLINE enters ROLLBACK with reason INCIDENT; a lane in ALIGN or MATCH whose
channels do not all stand at their incident levels returns to PREPARE with its timer stopped and its match count 0; a
lane in any other stage keeps its record, and no station is admitted by the passes that the released reservations call,
whichever of the two blocks takes the change first (R38, R128; log 8, DEDUCED). Each of these lanes, in lane order (log
22, DESIGN CHOICE), takes its steps whole: from CAPTURE the release of the reservations and THAW, from ALIGN and MATCH
the abandoned ALIGN, the incident order to its channels, the NOTE_STATION and the settled test. -/
def Obligations.AdmissionAndLanesTakeTheIncident : Prop :=
  (∀ (rest : List Bool) (s : State),
     (s.inc.toAdmission = true :: rest →
       ∃ t, exec .incidentActiveAdmission s = .next t ∧ t.inc = { s.inc with toAdmission := rest } ∧
         keepsBut [.inc, .link, .outbox, .free] s t) ∧
     (s.inc.toAdmission = false :: rest →
       ∃ t, exec .incidentInactiveAdmission s = .next t ∧ t.inc = { s.inc with toAdmission := rest } ∧
         keepsBut [.link, .outbox, .free] (callPass { s with inc := { s.inc with toAdmission := rest } }) t ∧
         (s.adm.queue = [] → keepsBut [.inc, .link, .outbox, .free] s t)) ∧
     (s.inc.toLanes = false :: rest →
       ∃ t, exec .incidentInactiveLanes s = .next t ∧ t.inc = { s.inc with toLanes := rest } ∧
         keepsBut [.inc, .link, .outbox, .free] s t)) ∧
  (∀ (rest : List Bool) (s : State), s.inc.toLanes = true :: rest →
     ∃ t, exec .incidentActiveLanes s = .next t ∧ t.inc = { s.inc with toLanes := rest } ∧
       keepsBut [.inc, .adm, .lane, .chan, .reg, .ports, .link, .outbox, .free] s t ∧
       (∀ l, (s.laneRec l).stage ∈ [.rollback, .restart, .boot, .restore, .prepare, .release] →
         t.laneRec l = s.laneRec l) ∧
       (∀ l n, (s.laneRec l).stage = .capture → (s.laneRec l).station = some n → (s.port n).faulted = false →
         t.laneRec l = { s.laneRec l with stage := .rollback, timer := none, rollbackReason := some .incident }) ∧
       (∀ l n c p, ((s.laneRec l).stage = .align ∨ (s.laneRec l).stage = .matching) → (s.laneRec l).station = some n →
         c ∈ s.bound n → s.channelPlan c = some p → ((s.channel c).mode = .hold ∨ (s.channel c).mode = .track) →
         p.incidentLevel ≠ (s.channel c).level →
         t.laneRec l = { s.laneRec l with stage := .prepare, timer := none, matchCount := 0 }) ∧
       ((∀ l, (s.laneRec l).stage ∉ [.capture, .align, .matching]) → keepsBut [.inc, .link, .outbox, .free] s t) ∧
       ((∀ l, (s.laneRec l).stage ∈ [.capture, .align, .matching] → ∃ n, (s.laneRec l).station = some n ∧
           s.laneOf n = some l ∧ s.station n ≠ none ∧ s.stationPlan n ≠ none ∧ ∀ q ∈ s.adm.queue, q.station ≠ n) →
         t = finish ((allLanes.filter fun l => decide ((s.laneRec l).stage ∈ [.capture, .align, .matching])).foldl
           meetsIncident { s with inc := { s.inc with toLanes := rest } })) ∧
       ((rest = [] → (s.inc.line || s.inc.hostFlag) = true) → (∀ d ∈ rest.head?, d = false) →
         (s.inc.toLanes.length ≤ s.inc.toAdmission.length ∨
           (s.inc.toAdmission = [] ∧ (s.inc.line || s.inc.hostFlag) = true) ∨
           ∃ more, s.inc.toAdmission = false :: more) →
         ∀ n, t.stationState n = some .active → s.stationState n = some .active))

/-- R84, R87, R90, R127: at the change to active every defined channel in HOLD or TRACK enters INCIDENT with its
incident level as target, its relay, stage and driven level as they were; a VENT channel whose required sense differs
from its driven sense starts a reversal, one in progress toward it goes on, and one toward another sense ends; the
channels that left TRACK are counted (R118). Then every lane in PREPARE makes its settled test, once for all the changes
of the event (R62; log 11, DEDUCED). -/
def Obligations.ChannelsTakeTheIncident : Prop :=
  ∀ (rest : List Bool) (s : State), s.inc.toChannels = true :: rest →
    ∀ enters, enters = (fun (c : Fin 32) => decide (s.channelPlan c ≠ none ∧
        ((s.channel c).mode = .hold ∨ (s.channel c).mode = .track))) →
    exec .incidentActiveChannels s = .next (finish (settleLanes { s with
      inc := { s.inc with toChannels := rest }
      chan := { s.chan with
        channels := tmap (fun c r =>
          match s.channelPlan c with
          | some p =>
            if enters c then incidentRecord s.now (dwellTime s c) (decide (s.kind c = some .vent)) p r else r
          | none => r) s.chan.channels }
      reg := tracksLeave (allChannels.filter enters) s }))

/-- R62, R83, R116, R132: at the change to inactive a defined channel in INCIDENT whose owner station is in RESTART,
BOOT or RESTORE or STRANDED, with its hold-grace timer EXPIRED and a law other than NONE, enters TRACK on its channel
target; every other channel in INCIDENT, one without a record included (log 28, DEDUCED), enters HOLD and keeps its
target; channels in other modes are left alone. The Regulator counts the entries into TRACK; the first of a zone forms
its blind flag, with a NOTE_ZONE for a change (R111, R121; its contents by log 37, the order of several by log 22), and
creates its target. Then every lane in PREPARE makes its settled test, once for all the changes of the event (log 11,
DEDUCED). -/
def Obligations.ChannelsLeaveTheIncident : Prop :=
  ∀ (rest : List Bool) (s : State), s.inc.toChannels = false :: rest →
    ∃ v, exec .incidentInactiveChannels s = .next (finish (settleLanes v)) ∧
      v.inc = { s.inc with toChannels := rest } ∧ keepsBut [.inc, .chan, .reg, .outbox] s v ∧
      v.chan.nextMeasure = s.chan.nextMeasure ∧ v.chan.nextRamp = s.chan.nextRamp ∧
      v.reg.nextZones = s.reg.nextZones ∧
      (∀ c, (s.channel c).mode ≠ .incident → v.channel c = s.channel c) ∧
      (∀ c, (s.channel c).mode = .incident → s.channelPlan c = none →
        v.channel c = { s.channel c with mode := .hold }) ∧
      (∀ c p, (s.channel c).mode = .incident → s.channelPlan c = some p →
        (((s.stageOf p.owner = some .restart ∨ s.stageOf p.owner = some .boot ∨ s.stageOf p.owner = some .restore ∨
            s.stationState p.owner = some .stranded) ∧ s.grace p.owner = .expired ∧ s.lawOf c ≠ .none) →
          v.channel c = { s.channel c with
            mode := .track
            target := (v.zoneRec p.zone).target.map fun z => max p.minLevel (min p.maxLevel z) }) ∧
        (¬((s.stageOf p.owner = some .restart ∨ s.stageOf p.owner = some .boot ∨ s.stageOf p.owner = some .restore ∨
            s.stationState p.owner = some .stranded) ∧ s.grace p.owner = .expired ∧ s.lawOf c ≠ .none) →
          v.channel c = { s.channel c with mode := .hold })) ∧
      (∀ z, (v.zoneRec z).trackCount = (s.zoneRec z).trackCount +
        (allChannels.filter fun c => decide ((s.channel c).mode = .incident ∧ (v.channel c).mode = .track ∧
          s.zoneOf c = some z)).length) ∧
      ∀ enters, enters = (fun (c : Fin 32) =>
          decide ((s.channel c).mode = .incident ∧ (v.channel c).mode = .track)) →
        (∀ z, v.zoneRec z = tracksEnter enters s z) ∧ v.outbox = s.outbox ++ enterNotes enters s

/-! ### Requests of single blocks -/

/-- R28, R44, R72, R97, R109, R153, R182: RESET CAMPAIGN ends the campaign in one event: every station IDLE with its
checkpoint gone, and a NOTE_STATION for each that was not, the queue, reservations and settle-until points gone, every
lane FREE with its restart line released and every hold-grace timer NOT_STARTED, every channel in FOLLOW, no zone
target, no dialogue; RESET FULL only becomes pending, and its reply waits. The notices in station order are the model's
choice (log 22), and every restart line and hold-grace timer, those of a station without a lane included, is released by
log 27 (DEDUCED). -/
def Obligations.ResetRequestsTakeTheirScope : Prop :=
  ∀ (tag : Byte) (s : State), linkReady s →
    (∀ cleared : StationRec → StationRec,
      cleared = (fun r => { r with state := .idle, checkpoint := none, preCaptured := false }) →
      exec (.resetCampaign tag) s = .next (answeredWith 0x38 tag .ok (.scope false) { s with
        adm := { campaign := .idle, params := none, queue := [], reserved := tfill 32 false, settle := tfill 12 none
                 stations := tmap (fun _ q => q.map cleared) s.adm.stations }
        lane := { s.lane with
          lanes := tfill 4 Lane.fresh, restartLine := tfill 16 false, grace := tfill 16 .notStarted }
        chan := { s.chan with channels := tmap (fun _ r => followRecord r) s.chan.channels }
        reg := { s.reg with
          zones := tmap (fun _ r => { r with demand := none, target := none, trackCount := 0 }) s.reg.zones }
        ports := tmap (fun _ p => { p with dialogue := none, waiting := none, lateRecord := none }) s.ports
        outbox := s.outbox ++ allStations.filterMap fun n => (s.station n).bind fun r =>
          if r.state = .idle then none else some (stateNote n (cleared r)) })) ∧
    ∃ t, exec (.resetFull tag) s = .next t ∧ keepsBut [.link, .outbox, .free] s t ∧
      t.link.core = { s.link with
        resetPending := true, slot := some (Reply.mk 0xB8 tag .ok (.scope true)) }.core

/-! ### The lanes and their stations -/

/-- R43, R48, R65: a settle-until point is removed when local time reaches it, and a pass follows; a RUNNING hold-grace
timer expires, and while the station's lane is in RESTART, BOOT or RESTORE, or the station is STRANDED, the station is
taken over. R65, R66, R83, R116: a take-over brings each HOLD channel of the station whose zone has a law into TRACK on
its channel target; the Regulator counts the entries, and the first of a zone forms its blind flag, with a NOTE_ZONE for
a change (R111, R121; its contents by log 37, the order of several by log 22), and creates its target. A point that is
absent and a timer that is not RUNNING change nothing: the model's choice (log 26). -/
def Obligations.SettlePointsAndHoldGraceExpire : Prop :=
  (∀ (s : State) (d : Nat),
    (∀ z, tget s.adm.settle z = some d →
      exec (.settlePointExpiry z) s = .next (finish
        (callPass { reach d s with adm := { s.adm with settle := tset s.adm.settle z none } })) ∧
      ((s.adm.campaign ≠ .running ∨ s.adm.queue = []) → exec (.settlePointExpiry z) s =
        .next (finish { reach d s with adm := { s.adm with settle := tset s.adm.settle z none } }))) ∧
    (∀ z, tget s.adm.settle z = none → exec (.settlePointExpiry z) s = .next (finish s)) ∧
    (∀ n v, s.grace n = .running d →
      v = { reach d s with lane := { (reach d s).lane with grace := tset s.lane.grace n .expired } } →
      (¬(s.stageOf n = some .restart ∨ s.stageOf n = some .boot ∨ s.stageOf n = some .restore ∨
          s.stationState n = some .stranded) → exec (.holdGraceExpiry n) s = .next (finish v)) ∧
      ((s.stageOf n = some .restart ∨ s.stageOf n = some .boot ∨ s.stageOf n = some .restore ∨
          s.stationState n = some .stranded) →
        exec (.holdGraceExpiry n) s = .next (finish (takeOverStation n v)))) ∧
    ∀ n, (s.grace n = .notStarted ∨ s.grace n = .expired) →
      exec (.holdGraceExpiry n) s = .next (finish s)) ∧
  ∀ (n : Fin 16) (s u : State), u = takeOverStation n s →
    keepsBut [.chan, .reg, .outbox] s u ∧ u.chan.nextMeasure = s.chan.nextMeasure ∧
    u.chan.nextRamp = s.chan.nextRamp ∧ u.reg.nextZones = s.reg.nextZones ∧
    takeOverIfExpired n s = (if s.grace n = .expired then u else s) ∧
    (∀ c p, c ∈ s.bound n → (s.channel c).mode = .hold → s.channelPlan c = some p → s.lawOf c ≠ .none →
      u.channel c = { s.channel c with
        mode := .track
        target := (u.zoneRec p.zone).target.map fun z => max p.minLevel (min p.maxLevel z) }) ∧
    (∀ c, (c ∉ s.bound n ∨ (s.channel c).mode ≠ .hold ∨ s.lawOf c = .none) → u.channel c = s.channel c) ∧
    (∀ z k, k = (allChannels.filter fun c =>
        decide (c ∈ s.bound n ∧ (s.channel c).mode = .hold ∧ s.lawOf c ≠ .none ∧ s.zoneOf c = some z)).length →
      (k = 0 → u.zoneRec z = s.zoneRec z) ∧
      (k ≠ 0 → (s.zoneRec z).trackCount ≠ 0 →
        u.zoneRec z = { s.zoneRec z with trackCount := (s.zoneRec z).trackCount + k }) ∧
      (∀ q, k ≠ 0 → (s.zoneRec z).trackCount = 0 → s.zonePlan z = some q →
        u.zoneRec z = { blindRecord s z (s.zoneRec z) with
          demand := some (demandOf s q), target := some (demandOf s q), trackCount := k })) ∧
    ((s.bound n).Pairwise (· < ·) → ∀ enters, enters = (fun (c : Fin 32) =>
        decide (c ∈ s.bound n ∧ (s.channel c).mode = .hold ∧ s.lawOf c ≠ .none)) →
      u.outbox = s.outbox ++ enterNotes enters s)

/-- R55, R56, R57, R59, R64, R66, R68: the restart pulse ends in BOOT, with its own timer and the restart line released,
or at once in RESTORE, whose body R59 and R194 lay out, when the ready line has been low and is high; a boot wait that
fails restarts the station while its attempts are at most its retry limit, and strands it otherwise; an align timer that
expires returns the lane to ALIGN at most twice, and then strands the station. On a FAULTED port the dialogues opened
fail at once. In a stage without a timer the three events change nothing: the model's choice (log 26). -/
def Obligations.LaneTimersExpire : Prop :=
  (∀ (l : Fin 4) (n : Fin 16) (p : StationPlan) (r : StationRec) (d : Nat) (s u : State), u = reach d s →
    (s.laneRec l).station = some n → s.laneOf n = some l → (s.laneRec l).timer = some d → s.stationPlan n = some p →
    s.station n = some r →
    ((s.laneRec l).stage = .restart →
      ∀ w, w = boots l n p r { u with
          lane := { u.lane with restartLine := tset s.lane.restartLine n false } } →
        (¬((s.laneRec l).seenReadyLow = true ∧ tget s.lane.ready n = true) →
          exec (.restartPulseEnd l) s = .next (finish w)) ∧
        ((s.laneRec l).seenReadyLow = true → tget s.lane.ready n = true →
          exec (.restartPulseEnd l) s = .next (finish (restores l n p r w)))) ∧
    ((s.laneRec l).stage = .boot →
      exec (.bootTimerExpiry l) s = .next (finish (restartsOrStrands l n p r
        (if (s.laneRec l).seenReadyLow then .bootTimeout else .noRestartSeen) u))) ∧
    ((s.laneRec l).stage = .matching →
      exec (.alignTimerExpiry l) s = .next (finish (alignsAgain l n r { u with
        lane := { u.lane with lanes := tset s.lane.lanes l { s.laneRec l with matchCount := 0, timer := none } } })))) ∧
  (∀ (l : Fin 4) (s : State),
    ((s.laneRec l).stage ≠ .restart → exec (.restartPulseEnd l) s = .next (finish s)) ∧
    ((s.laneRec l).stage ≠ .boot → exec (.bootTimerExpiry l) s = .next (finish s)) ∧
    ((s.laneRec l).stage ≠ .matching → exec (.alignTimerExpiry l) s = .next (finish s))) ∧
  ∀ (n : Fin 16) (r : StationRec) (cp : Checkpoint) (time : TunnelTime) (s : State) (head entries : List Byte),
    s.station n = some r →
    time = (tunnelTime s).getD { day := 0, second := 0, micro := 0 } →
    head = bytes2 time.day ++ bytes4 time.second ++ bytes2 (time.micro / 1000) ++
      [timeStateCode s.time.state, if (s.inc.line || s.inc.hostFlag) then 1 else 0] →
    entries = byteOf (s.bound n).length :: (s.bound n).flatMap (fun c =>
      bytes2 (s.channel c).level ++ [if (s.channel c).sense = .forward then 0 else 1]) →
    restoreBody s n .cold = head ++ [0] ++ entries ∧
    (r.checkpoint = some cp →
      restoreBody s n .warm = head ++ [1, cp.modeByte, byteOf cp.bytes.length] ++ cp.bytes ++ entries)

/-- R47, R55, R56, R58, R59, R61, R66: a ready rise in BOOT after the line has been low takes the lane to RESTORE; a
ready fall in RESTART and BOOT is remembered; one in RESTORE, PREPARE, ALIGN or MATCH abandons the dialogue, counts an
attempt and returns the lane to BOOT, or strands the station when the count exceeds its retry limit; in any other stage,
or with no lane, only the deglitched ready state changes. A rise on a high state and a fall on a low one change nothing:
the model's choice (log 26). -/
def Obligations.ReadyEdgesReachTheLane : Prop :=
  ∀ (n : Fin 16) (s : State),
    (tget s.lane.ready n = false → ∀ v, v = { s with
        pins := { s.pins with ready := tset s.pins.ready n true }
        lane := { s.lane with ready := tset s.lane.ready n true, readyCount := tset s.lane.readyCount n 0 } } →
      ((∀ l, s.laneOf n = some l → (s.laneRec l).stage ≠ .boot ∨ (s.laneRec l).seenReadyLow = false) →
        exec (.readyRise n) s = .next (finish v)) ∧
      ∀ l p r, s.laneOf n = some l → s.stationPlan n = some p → s.station n = some r → (s.laneRec l).stage = .boot →
        (s.laneRec l).seenReadyLow = true → exec (.readyRise n) s = .next (finish (restores l n p r v))) ∧
    (tget s.lane.ready n = true → ∀ v, v = { s with
        pins := { s.pins with ready := tset s.pins.ready n false }
        lane := { s.lane with ready := tset s.lane.ready n false, readyCount := tset s.lane.readyCount n 0 } } →
      ((∀ l, s.laneOf n = some l → (s.laneRec l).stage ∈ [.free, .capture, .rollback, .release]) →
        exec (.readyFall n) s = .next (finish v)) ∧
      ∀ l, s.laneOf n = some l →
        ((s.laneRec l).stage ∈ [.restart, .boot] → exec (.readyFall n) s = .next (finish { v with
          lane := { v.lane with lanes := tset s.lane.lanes l { s.laneRec l with seenReadyLow := true } } })) ∧
        ∀ p r r' w, s.stationPlan n = some p → s.station n = some r →
          (s.laneRec l).stage ∈ [.restore, .prepare, .align, .matching] →
          r' = { r with attempts := min (r.attempts + 1) (p.retryLimit + 1) } →
          w = { v with
            ports := tset s.ports n (if (s.port n).dialogue = none then s.port n
              else { s.port n with dialogue := none, waiting := none })
            lane := { v.lane with lanes := tset s.lane.lanes l { s.laneRec l with
              timer := none, matchCount := 0, seenReadyLow := true } } } →
          exec (.readyFall n) s = .next (finish
            (if r.attempts < p.retryLimit then boots l n p r' w else strands l n r' .rebooted w))) ∧
    (tget s.lane.ready n = true → exec (.readyRise n) s = .next (finish s)) ∧
    (tget s.lane.ready n = false → exec (.readyFall n) s = .next (finish s))

/-! ### The channels -/

/-- R37, R43, R67, R69, R75, R79: at a measurement every channel takes the station-side level, at most 1000, the
station-side sense and the load current, at most 600 tenths; the next completes 100 ms later. A lane in MATCH whose
channels all agree counts up, and one with a channel that does not starts again from 0; at the third agreement in a row
the lane enters RELEASE: the station's channels return to FOLLOW, its reservations end, its zones settle, RELEASE is
opened, and a pass is called. On a FAULTED port RELEASE fails at once, and that this pass is taken before the failure is
handled, whose outcome calls another, is the model's reading (log 10, DEDUCED). Lanes are taken in lane order (log 22,
DESIGN CHOICE). -/
def Obligations.MeasurementsReachTheLanesInMatch : Prop :=
  (∀ (levels : Vector Nat 32) (senses : Vector Sense 32) (currents : Vector Nat 32) (s u v : State),
    u = reach s.chan.nextMeasure s →
    v = { u with
      pins := { s.pins with stationLevel := levels, stationSense := senses, loadCurrent := currents }
      chan := { u.chan with
        nextMeasure := s.chan.nextMeasure + 1600000
        channels := tmap (fun c r => { r with
          observedLevel := min 1000 (tget levels c), observedSense := tget senses c
          loadCurrent := min 600 (tget currents c) }) u.chan.channels } } →
    exec (.measurementComplete levels senses currents) s = .next (finish (matchLanes v)) ∧
    ((∀ l, (s.laneRec l).stage ≠ .matching) → matchLanes v = v)) ∧
  (∀ (l : Fin 4) (n : Fin 16) (p : StationPlan) (r : StationRec) (agrees : Fin 32 → Prop) (v : State),
    (v.laneRec l).stage = .matching → (v.laneRec l).station = some n → v.laneOf n = some l →
    v.stationPlan n = some p → v.station n = some r → (∀ q ∈ v.adm.queue, q.station ≠ n) →
    (∀ c, agrees c ↔
      |((v.channel c).observedLevel : ℤ) - (v.channel c).level| ≤ p.handbackTolerance ∧
        (v.kind c = some .vent → (v.channel c).observedSense = (v.channel c).sense)) →
    ((∃ c ∈ v.bound n, ¬agrees c) → (matchLanes v).laneRec l = { v.laneRec l with matchCount := 0 }) ∧
    ((∀ c ∈ v.bound n, agrees c) → (v.laneRec l).matchCount < 2 →
      (matchLanes v).laneRec l = { v.laneRec l with matchCount := (v.laneRec l).matchCount + 1 }) ∧
    ((∀ c ∈ v.bound n, agrees c) → 2 ≤ (v.laneRec l).matchCount → v.adm.campaign ≠ .running →
      (v.port n).faulted = false → ∀ t, t = matchLanes v →
      t.laneRec l = { v.laneRec l with stage := .release, timer := none, matchCount := 3, releaseSends := 1 } ∧
      (∀ c ∈ v.bound n, (t.channel c).mode = .follow ∧ tget t.adm.reserved c = false ∧
        ((v.channel c).mode ≠ .follow → (t.channel c).relay = false ∧ (t.channel c).stage = false)) ∧
      t.grace n = .notStarted ∧ (∃ g, (t.port n).dialogue = some g ∧ g.kind = .release ∧ g.body = []) ∧
      ∀ z q, v.touches n z = true → v.zonePlan z = some q → 0 < q.settleTime →
        tget t.adm.settle z = some (v.now + q.settleTime * 16000000)) ∧
    ((∀ k, k ≠ l → (v.laneRec k).stage ≠ .matching) →
      ((∃ c ∈ v.bound n, ¬agrees c) → matchLanes v = { v with
        lane := { v.lane with lanes := tset v.lane.lanes l { v.laneRec l with matchCount := 0 } } }) ∧
      ((∀ c ∈ v.bound n, agrees c) → (v.laneRec l).matchCount < 2 → matchLanes v = { v with
        lane := { v.lane with
          lanes := tset v.lane.lanes l { v.laneRec l with matchCount := (v.laneRec l).matchCount + 1 } } }) ∧
      ((∀ c ∈ v.bound n, agrees c) → 2 ≤ (v.laneRec l).matchCount → matchLanes v = releases l n r v)))

/-- R62, R63, R85, R88, R91: at a ramp boundary every defined channel not in FOLLOW moves its driven level toward its
aim by at most its step; a run-down that reaches 0 starts the dwell, or completes when the zone's dwell is 0. Then every
lane in PREPARE makes its settled test, once for all the changes of the event (log 11, DEDUCED) and in lane order (log
22, DESIGN CHOICE): one whose station's channels are all settled goes to ALIGN, with the driven levels and senses as
they stand. -/
def Obligations.RampStepsTheDrivenChannels : Prop :=
  (∀ s u : State, u = reach s.chan.nextRamp s →
    ∃ v, exec .regulationBoundaryRamp s = .next (finish (settleLanes v)) ∧ keepsBut [.chan] u v ∧
      v.chan.nextRamp = s.chan.nextRamp + 16000000 ∧ v.chan.nextMeasure = s.chan.nextMeasure ∧
      (∀ c, (s.channelPlan c = none ∨ (s.channel c).mode = .follow) → v.channel c = u.channel c) ∧
      ∀ c p aim step level, s.channelPlan c = some p → (s.channel c).mode ≠ .follow →
        aim = (match (s.channel c).reversal with
          | .rundown => 0
          | .dwell => (s.channel c).level
          | .none => (s.channel c).target.getD (s.channel c).level) →
        step = (if (s.channel c).mode = .incident then p.incidentRamp
          else if (s.channel c).level < aim then p.rampUp else p.rampDown) →
        level = (if (s.channel c).level < aim then min aim ((s.channel c).level + step)
          else max aim ((s.channel c).level - step)) →
        (¬((s.channel c).reversal = .rundown ∧ level = 0) →
          v.channel c = { u.channel c with level := level }) ∧
        ((s.channel c).reversal = .rundown → level = 0 → v.channel c =
          if dwellTime s c = 0 then { u.channel c with
            level := 0, sense := (s.channel c).reversalSense.getD (s.channel c).sense, reversal := .none
            reversalSense := none, dwellUntil := none }
          else { u.channel c with
            level := 0, reversal := .dwell, dwellUntil := some (u.now + dwellTime s c * 16000000) })) ∧
  (∀ v : State, (∀ l, (v.laneRec l).stage ≠ .prepare) → settleLanes v = v) ∧
  (∀ (v w : State) (goes : Fin 16 → Prop), preparesOnline v → w = settleLanes v →
    (∀ n, goes n ↔ ∀ c ∈ v.bound n, (v.channel c).target = some (v.channel c).level ∧
      (v.channel c).reversal = .none) →
    keepsBut [.lane, .ports, .outbox] v w ∧
    w.lane = { v.lane with lanes := w.lane.lanes } ∧
    (∀ l, ((v.laneRec l).stage ≠ .prepare ∨ (v.laneRec l).station = none) → w.laneRec l = v.laneRec l) ∧
    (∀ l n, (v.laneRec l).stage = .prepare → (v.laneRec l).station = some n →
      (¬goes n → w.laneRec l = v.laneRec l ∧ w.port n = v.port n) ∧
      (goes n → w.laneRec l = { v.laneRec l with stage := .align, timer := none } ∧
        w.port n = (openDialogue n .align (byteOf (v.bound n).length :: (v.bound n).flatMap fun c =>
          bytes2 (v.channel c).level ++ [if (v.channel c).sense = .forward then 0 else 1]) v).1.port n)) ∧
    (∀ n, (∀ l, (v.laneRec l).stage = .prepare → (v.laneRec l).station ≠ some n) → w.port n = v.port n) ∧
    w.outbox = v.outbox ++ allLanes.filterMap fun l =>
      if w.laneRec l = v.laneRec l then none
      else (v.laneRec l).station.bind fun n => (v.station n).map fun r => stageNote n r l .align) ∧
  ∀ (l : Fin 4) (n : Fin 16) (r : StationRec) (v : State), (v.laneRec l).stage = .prepare →
    (∀ k, k ≠ l → (v.laneRec k).stage ≠ .prepare) → (v.laneRec l).station = some n → v.laneOf n = some l →
    v.station n = some r →
    (∀ c ∈ v.bound n, (v.channel c).target = some (v.channel c).level ∧ (v.channel c).reversal = .none) →
    settleLanes v = aligns l n r v

/-- R83, R110, R111, R117, R119, R121: at a zone boundary the blind flags of a READY plan are formed, with a NOTE_ZONE
for each change, the demand of every zone with a TRACK count and a law is computed, and it replaces the target when it
differs by the dead band or more, or is 1000; a replaced target reaches every TRACK channel of the zone within its
limits. Then every lane in PREPARE makes its settled test, once for all the changes of the event (log 11, DEDUCED). The
contents of the NOTE_ZONE are as they stand at the forming of the flag, and the notices come in zone order: the model's
choices (logs 37 and 22). -/
def Obligations.ZoneBoundaryRegulatesTheTracks : Prop :=
  ∀ s u : State, u = reach s.reg.nextZones s →
    ∃ v, exec .regulationBoundaryZones s = .next (finish (settleLanes v)) ∧ keepsBut [.reg, .chan, .outbox] u v ∧
      v.reg.nextZones = s.reg.nextZones + 16000000 ∧ v.chan.nextMeasure = s.chan.nextMeasure ∧
      v.chan.nextRamp = s.chan.nextRamp ∧
      v.outbox = s.outbox ++ (if s.plan.state = .ready then blindNotes s else []) ∧
      (∀ c, s.channelPlan c = none → v.channel c = u.channel c) ∧
      ∀ (z : Fin 12) (r : ZoneRec),
        (s.zonePlan z = none → v.zoneRec z = s.zoneRec z ∧
          ∀ c q, s.channelPlan c = some q → q.zone = z → v.channel c = u.channel c) ∧
        ∀ p, s.zonePlan z = some p →
          r = (if s.plan.state = .ready then blindRecord s z (s.zoneRec z) else s.zoneRec z) →
          (((s.zoneRec z).trackCount = 0 ∨ p.law = .none) →
            v.zoneRec z = r ∧ ∀ c q, s.channelPlan c = some q → q.zone = z → v.channel c = u.channel c) ∧
          ((s.zoneRec z).trackCount ≠ 0 → p.law ≠ .none → ∀ d, d = demandOf s p →
            ((d = 1000 ∨ ∀ old, (s.zoneRec z).target = some old → (p.deadBand : ℤ) ≤ |(d : ℤ) - old|) →
              v.zoneRec z = { r with demand := some d, target := some d } ∧
              ∀ c q, s.channelPlan c = some q → q.zone = z → v.channel c =
                if (s.channel c).mode = .track then
                  { u.channel c with target := some (max q.minLevel (min q.maxLevel d)) }
                else u.channel c) ∧
            (∀ old, (s.zoneRec z).target = some old → |(d : ℤ) - old| < p.deadBand → d ≠ 1000 →
              v.zoneRec z = { r with demand := some d } ∧
              ∀ c q, s.channelPlan c = some q → q.zone = z → v.channel c = u.channel c))

/-- R62, R89, R93, R95, R96: at the end of a dwell the reversal completes: the driven sense becomes the reversal sense;
then every lane in PREPARE makes its settled test. A latched overload switches the output stage off; the OPEN flag is
set with open-load detect on and is cleared; each change is reported by one NOTE_CHANNEL and leaves the mode and the
driven level. That the latch and the flags take effect when commanded, whatever the deglitch progress, is the model's
reading (log 20, DEDUCED); that the end of a dwell outside DWELL, and the setting of a set or the clearing of a clear
flag, change nothing is its choice (log 26). -/
def Obligations.DwellsAndFaultFlags : Prop :=
  ∀ (c : Fin 32) (s : State),
    (∀ d, (s.channel c).reversal = .dwell → (s.channel c).dwellUntil = some d →
      exec (.dwellEnd c) s = .next (finish (settleLanes { reach d s with
        chan := { (reach d s).chan with channels := tset (reach d s).chan.channels c { (reach d s).channel c with
          sense := (s.channel c).reversalSense.getD (s.channel c).sense, reversal := .none
          reversalSense := none, dwellUntil := none } } }))) ∧
    ((s.channel c).reversal ≠ .dwell → exec (.dwellEnd c) s = .next (finish s)) ∧
    (s.outbox = [] →
      (s.channelPlan c ≠ none → (s.channel c).overload = false →
        ∃ t, exec (.overloadLatched c) s = .next t ∧ keepsBut [.chan, .link] s t ∧
          t.chan = { s.chan with channels := tset s.chan.channels c { s.channel c with
            overload := true, stage := false } } ∧
          noted s t [.channel c .overload true true (s.channel c).openFlag (s.channel c).mode (s.channel c).level
            false]) ∧
      ((s.channelPlan c = none ∨ (s.channel c).overload = true) →
        ∃ t, exec (.overloadLatched c) s = .next t ∧ keepsBut [.link] s t ∧ noted s t []) ∧
      (∀ p, s.channelPlan c = some p → p.openDetect = true → (s.channel c).openFlag = false →
        ∃ t, exec (.openFlagSet c) s = .next t ∧ keepsBut [.chan, .link] s t ∧
          t.chan = { s.chan with channels := tset s.chan.channels c { s.channel c with
            openFlag := true, openProgress := 0 } } ∧
          noted s t [.channel c .openLoad true (s.channel c).overload true (s.channel c).mode (s.channel c).level
            (s.channel c).stage]) ∧
      ((s.channelPlan c = none ∨ (s.channel c).openFlag = true ∨
          ∃ p, s.channelPlan c = some p ∧ p.openDetect = false) →
        ∃ t, exec (.openFlagSet c) s = .next t ∧ keepsBut [.link] s t ∧ noted s t []) ∧
      (s.channelPlan c ≠ none → (s.channel c).openFlag = true →
        ∃ t, exec (.openFlagCleared c) s = .next t ∧ keepsBut [.chan, .link] s t ∧
          t.chan = { s.chan with channels := tset s.chan.channels c { s.channel c with
            openFlag := false, openProgress := 0 } } ∧
          noted s t [.channel c .openLoad false (s.channel c).overload false (s.channel c).mode (s.channel c).level
            (s.channel c).stage]) ∧
      ((s.channelPlan c = none ∨ (s.channel c).openFlag = false) →
        ∃ t, exec (.openFlagCleared c) s = .next t ∧ keepsBut [.link] s t ∧ noted s t []))

/-! ### The field ports -/

/-- R140, R141: one character on a field port: its errors are counted; in HUNT a start character without errors begins a
frame and any other character changes nothing more; each one after it is kept, with its errors; a body length above 250
abandons the frame at that character, and the second CRC character takes the frame, as a good one when none of its
characters had an error and its CRC matches, and otherwise as a bad one. A port without a rate receives nothing. A
character whose start bit comes more than 20 ms after the latest one finds the frame abandoned (log 25), and a gap ends
20 ms after the latest character; in HUNT a gap changes nothing (log 26, DESIGN CHOICE). R148, R190: the kinds of reply,
and which of them each dialogue expects. R143, R144, R149: a good frame clears the consecutive count; one that ends no
dialogue is LATE when its station is the port's own and its kind answers the late record, and UNEXPECTED otherwise. A
bad frame and an abandoned one raise the bad and the consecutive counts; the eighth in a row makes the port FAULTED,
with one NOTE_PORT, its dialogue ends, and its lane handles the failure (R75). A frame row counts the errors of its
characters: the row stands for its characters (log 6, DEDUCED). -/
def Obligations.FieldCharactersAndFramesAreCounted : Prop :=
  (∀ (n : Fin 16) (c : RxChar) (s : State) (q : Port),
     q = { s.port n with
       parity := if c.parityError then min 255 ((s.port n).parity + 1) else (s.port n).parity
       framing := if c.framingError then min 255 ((s.port n).framing + 1) else (s.port n).framing } →
     (s.port n).parity ≤ 255 → (s.port n).framing ≤ 255 →
     ((s.port n).rate = none → exec (.fieldCharacterReceived n c) s = .next (finish s)) ∧
     ((s.port n).rate ≠ none → (s.port n).rx = none →
       exec (.fieldCharacterReceived n c) s = .next (finish { s with ports := tset s.ports n { q with
         rx := if c.value = 0x5A ∧ c.parityError = false ∧ c.framingError = false then
           some { chars := [], parityErrors := 0, framingErrors := 0, gapFrom := s.now } else none } })) ∧
     ∀ p, (s.port n).rate ≠ none → (s.port n).rx = some p →
       (320000 < s.now - 176 * (s.port n).divisor.getD 0 - p.gapFrom →
         ∃ t, exec (.fieldCharacterReceived n c) s = .next t ∧
           runAll [.fieldFrameAbandoned n .length, .fieldCharacterReceived n c] s = some t) ∧
       (s.now - 176 * (s.port n).divisor.getD 0 - p.gapFrom ≤ 320000 →
         ((p.chars.length < 2 ∨ (p.chars.length = 2 ∧ c.value.toNat ≤ 250) ∨
             ∃ a k m more, p.chars = a :: k :: m :: more ∧ m.toNat ≤ 250 ∧ more.length ≤ m.toNat) →
           exec (.fieldCharacterReceived n c) s = .next (finish { s with ports := tset s.ports n { q with
             rx := some { chars := p.chars ++ [c.value]
                          parityErrors := p.parityErrors + if c.parityError then 1 else 0
                          framingErrors := p.framingErrors + if c.framingError then 1 else 0
                          gapFrom := s.now } } })) ∧
         (p.chars.length = 2 → 250 < c.value.toNat →
           exec (.fieldCharacterReceived n c) s =
             exec (.fieldFrameAbandoned n .length) { s with ports := tset s.ports n q }) ∧
         ∀ (a k m x : Byte) (body : List Byte) (clean : Prop), p.chars = a :: k :: m :: (body ++ [x]) →
           body.length = m.toNat → body.length ≤ 250 →
           (clean ↔ p.parityErrors = 0 ∧ p.framingErrors = 0 ∧ c.parityError = false ∧ c.framingError = false ∧
             crc (a :: k :: m :: body) = BitVec.ofNat 16 (nat2 x c.value)) →
           (clean → exec (.fieldCharacterReceived n c) s = exec (.fieldFrameTaken n {
             station := a, kind := k, body := body, crc := BitVec.ofNat 16 (nat2 x c.value), parityErrors := 0
             framingErrors := 0 }) s) ∧
           (¬clean → exec (.fieldCharacterReceived n c) s =
             exec (.fieldFrameAbandoned n .length) { s with ports := tset s.ports n q }))) ∧
  ((∀ (b : Byte) (k : ReplyKind), replyKindOf b = some k ↔
      (b, k) ∈ [(0x41, .frozen), (0x42, .nack), (0x43, .ack), (0x44, .restored), (0x45, .reject), (0x46, .aligned)]) ∧
    ∀ (d : DialogueKind) (k : ReplyKind), expects d k = true ↔
      (d, k) ∈ [(.freeze, .frozen), (.freeze, .nack), (.thaw, .ack), (.restore, .restored), (.restore, .reject),
        (.align, .aligned), (.align, .nack), (.release, .ack)]) ∧
  (∀ (n : Fin 16) (f : FieldFrame) (s : State) (good : Prop) (q : Port), (s.port n).rate ≠ none →
     (s.port n).parity ≤ 255 → (s.port n).framing ≤ 255 →
     q = { s.port n with
       rx := none, parity := min 255 ((s.port n).parity + f.parityErrors)
       framing := min 255 ((s.port n).framing + f.framingErrors) } →
     (good ↔ f.parityErrors = 0 ∧ f.framingErrors = 0 ∧ f.body.length ≤ 250 ∧
       crc (f.station :: f.kind :: byteOf f.body.length :: f.body) = f.crc) →
     (good → (∀ d k, (s.port n).dialogue = some d → f.station = byteOf n.val → replyKindOf f.kind = some k →
         expects d.kind k = false) →
       (∀ k d, f.station = byteOf n.val → (s.port n).lateRecord = some d → replyKindOf f.kind = some k →
         expects d k = true →
         exec (.fieldFrameTaken n f) s = .next (finish { s with ports := tset s.ports n { q with
           consecutive := 0, late := satInc 255 (s.port n).late, lateRecord := none } })) ∧
       ((f.station ≠ byteOf n.val ∨ (s.port n).lateRecord = none ∨ replyKindOf f.kind = none ∨
           ∃ k d, (s.port n).lateRecord = some d ∧ replyKindOf f.kind = some k ∧ expects d k = false) →
         exec (.fieldFrameTaken n f) s = .next (finish { s with ports := tset s.ports n { q with
           consecutive := 0, unexpected := satInc 255 (s.port n).unexpected } }))) ∧
     (∀ x, (s.port n).rx = some x → exec (.fieldFrameAbandoned n .gap) s =
       exec (.fieldFrameAbandoned n .length) (reach (x.gapFrom + 320000) s)) ∧
     ((s.port n).rx = none → exec (.fieldFrameAbandoned n .gap) s = .next (finish s)) ∧
     ∀ e ∈ [(Instr.fieldFrameAbandoned n .length, { s.port n with rx := none }), (.fieldFrameTaken n f, q)],
       (e.1 = .fieldFrameTaken n f → ¬good) →
       (((s.port n).consecutive < 7 ∨ (s.port n).faulted = true) →
         exec e.1 s = .next (finish { s with ports := tset s.ports n { e.2 with
           bad := satInc 255 (s.port n).bad, consecutive := satInc 8 (s.port n).consecutive } })) ∧
       (7 ≤ (s.port n).consecutive → (s.port n).faulted = false →
         ∀ v, v = { s with
             ports := tset s.ports n { e.2 with
               bad := satInc 255 (s.port n).bad, consecutive := 8, faulted := true, waiting := none, dialogue := none
               lateRecord := ((s.port n).dialogue.map (·.kind)).orElse fun _ => (s.port n).lateRecord }
             outbox := s.outbox ++ [(.ports, .port n true e.2.parity e.2.framing (satInc 255 (s.port n).bad)
               (s.port n).unexpected (s.port n).late (s.port n).timeouts 8)] } →
           (((s.port n).dialogue = none ∨ s.laneOf n = none) → exec e.1 s = .next (finish v)) ∧
           ∀ d l p r, (s.port n).dialogue = some d → s.laneOf n = some l → s.stationPlan n = some p →
             s.station n = some r → (∀ x ∈ s.adm.queue, x.station ≠ n) →
             exec e.1 s = .next (finish (afterFailure d.kind l n p r v)))) ∧
  ∀ (n : Fin 16) (f : FieldFrame) (cause : AbandonCause) (s : State), (s.port n).rate = none → (s.port n).rx = none →
    exec (.fieldFrameTaken n f) s = .next (finish s) ∧ exec (.fieldFrameAbandoned n cause) s = .next (finish s)

/-- R141, R190, characters and frames agree (the frame row stands for its characters: log 6, DEDUCED): the characters of
a field frame of any station, kind, body and CRC, received without errors by a port with a rate whose receiver is in
HUNT, are the frame taken with those fields. -/
def Obligations.FieldCharactersMakeTheFrame : Prop :=
  ∀ (n : Fin 16) (station kind : Byte) (body : List Byte) (r : Word16) (s : State), body.length ≤ 250 →
    (s.port n).rate ≠ none → (s.port n).rx = none → s.outbox = [] → s.link.settled →
    runAll ((0x5A :: fieldCovered station kind body ++ crcBytes r).map fun b =>
        .fieldCharacterReceived n (.clean b)) s =
      runAll [.fieldFrameTaken n { station := station, kind := kind, body := body, crc := r }] s

/-- R48, R50 to R53, R55, R66, R84, R149: a FROZEN that is laid out wrong, or fails a test as a whole, takes the lane to
ROLLBACK with reason PROTOCOL; one with an entry that disagrees with the measurement, with reason CAPTURE_MISMATCH; an
agreeing one captures the station: each of its channels in FOLLOW goes to HOLD at its observed level and sense, and
under an active condition on to INCIDENT; the checkpoint is kept, the hold-grace timer runs, or expires at once with a
grace of 0, and the lane enters RESTART with the restart line asserted. -/
def Obligations.FrozenCapturesTheStation : Prop :=
  ∀ (n : Fin 16) (l : Fin 4) (f : FieldFrame) (p : StationPlan) (r : StationRec) (d : Dialogue)
    (s v : State), (s.port n).rate ≠ none → fieldFrameGood f = true → f.body.length ≤ 250 → f.station = byteOf n.val →
    f.kind = 0x41 →
    (s.port n).dialogue = some d → d.kind = .freeze → (s.port n).waiting = none → s.laneOf n = some l →
    s.stationPlan n = some p → s.station n = some r → (∀ q ∈ s.adm.queue, q.station ≠ n) →
    v = { s with ports := tset s.ports n { s.port n with dialogue := none, consecutive := 0, rx := none } } →
    (frozenOf f.body = none → exec (.fieldFrameTaken n f) s = .next (finish (rollsBack l n p r .protocol v))) ∧
    ∀ (z : Frozen) (whole agrees : Prop), frozenOf f.body = some z →
      (whole ↔ z.entries.length = (s.bound n).length ∧ z.checkpoint.length ≤ 192 ∧
        ∀ e ∈ z.entries, e.1 ≤ 1000 ∧ e.2 ≤ 1) →
      (agrees ↔ ∀ x ∈ (s.bound n).zip z.entries,
        |(x.2.1 : ℤ) - (s.channel x.1).observedLevel| ≤ p.captureTolerance ∧
          (s.kind x.1 = some .vent → x.2.2 = if (s.channel x.1).observedSense = .forward then 0 else 1)) →
      (¬whole → exec (.fieldFrameTaken n f) s = .next (finish (rollsBack l n p r .protocol v))) ∧
      (whole → ¬agrees → exec (.fieldFrameTaken n f) s = .next (finish (rollsBack l n p r .captureMismatch v))) ∧
      (whole → agrees →
        ((s.inc.line || s.inc.hostFlag) = true → ∀ c ∈ s.bound n, (s.channel c).mode ≠ .track) →
        exec (.fieldFrameTaken n f) s = .next (finish (captures l n p r z v)))

/-- R31, R50, R53, R54, R60, R62 to R64, R70, R149: a reply that ends a dialogue moves the lane. NACK to FREEZE:
ROLLBACK with its reason, its pass and THAW. ACK to THAW: the rollback ends. RESTORED: PREPARE, the TRACK channels held
in place, and ALIGN when all are settled; REJECT: a COLD RESTORE after a WARM one, and otherwise the strand. ALIGNED:
MATCH under the align timer; NACK to ALIGN: one more align attempt. ACK to RELEASE: the station is DONE. A reply with a
body of the wrong length is handled as the failure of its dialogue (R148), to FREEZE with reason PROTOCOL. With no lane
holding the station the dialogue only ends. -/
def Obligations.RepliesMoveTheLane : Prop :=
  ∀ (n : Fin 16) (f : FieldFrame) (d : Dialogue) (s v : State),
    (s.port n).rate ≠ none → fieldFrameGood f = true → f.body.length ≤ 250 → f.station = byteOf n.val →
    (s.port n).dialogue = some d → (s.port n).waiting = none →
    v = { s with ports := tset s.ports n { s.port n with dialogue := none, consecutive := 0, rx := none } } →
    (∀ k, replyKindOf f.kind = some k → expects d.kind k = true → s.laneOf n = none →
      exec (.fieldFrameTaken n f) s = .next (finish v)) ∧
    ∀ (l : Fin 4) (p : StationPlan) (r : StationRec) (w : State), s.laneOf n = some l → s.stationPlan n = some p →
      s.station n = some r → (∀ q ∈ s.adm.queue, q.station ≠ n) → exec (.fieldFrameTaken n f) s = .next w →
      (d.kind = .freeze → f.kind = 0x42 → f.body = [] → w = finish (rollsBack l n p r .freezeRefused v)) ∧
      (d.kind = .freeze → f.kind = 0x42 → f.body ≠ [] → w = finish (rollsBack l n p r .protocol v)) ∧
      (d.kind = .thaw → f.kind = 0x43 → ∀ why, (s.laneRec l).rollbackReason = some why →
        w = finish (rolledBack l n p r why v)) ∧
      (d.kind = .restore → f.kind = 0x44 → f.body = [] → w = finish (prepares l n r v)) ∧
      (d.kind = .restore → f.kind = 0x45 → f.body = [] →
        ((s.laneRec l).mode = .warm → w = finish (sendsRestore l n p r { v with
          lane := { v.lane with lanes := tset v.lane.lanes l { s.laneRec l with mode := .cold } } })) ∧
        ((s.laneRec l).mode = .cold → w = finish (strands l n r .restoreRejected v))) ∧
      (d.kind = .restore → (f.kind = 0x44 ∨ f.kind = 0x45) → f.body ≠ [] →
        w = finish (restartsOrStrands l n p r .restoreTimeout v)) ∧
      (d.kind = .align → f.kind = 0x46 → f.body = [] → w = finish (laneEnters l n { s.laneRec l with
        stage := .matching, timer := some (s.now + p.alignTimeout * 16000000), matchCount := 0 } r v)) ∧
      (d.kind = .align → (f.kind = 0x42 ∨ (f.kind = 0x46 ∧ f.body ≠ [])) → w = finish (alignsAgain l n r v)) ∧
      (d.kind = .release → f.kind = 0x43 → f.body = [] → w = finish (completes l n r false v)) ∧
      (d.kind = .release → f.kind = 0x43 → f.body ≠ [] → w = finish (releasesAgain l n r v))

/-- R138, R139, R144, R146, R147: a lane that opens a dialogue on a FAULTED port has it fail at once, its kind the late
record; on an idle port its frame is sent, 11 bit times of 16 divisors a character (section 7.2; log 19, DEDUCED);
behind a frame being sent it waits, in the place of any frame still waiting there (log 35, DESIGN CHOICE). When the last
character of a frame has been sent, its dialogue waits for the reply under the dialogue timeout, and a waiting frame
begins at the port's own rate. R150, R54, R60, R64, R70, R75: a dialogue that times out ends, counts, and leaves its
kind as the late record, and its lane, if one holds the station, handles it: FREEZE by ROLLBACK, THAW by the end of the
rollback, RESTORE by RESTART or the strand, ALIGN by a resend or the strand, RELEASE by a resend or, after the third,
DONE unconfirmed. The two events change nothing with no frame being sent and no dialogue timer running: the model's
choice (log 26). -/
def Obligations.FramesSentAndDialogueTimeouts : Prop :=
  (∀ (n : Fin 16) (k : DialogueKind) (body : List Byte) (s : State), ∀ frame covered,
    covered = byteOf n.val :: (match k with | .freeze => 1 | .thaw => 2 | .restore => 3 | .align => 4 | .release => 5) ::
      byteOf body.length :: body →
    frame = 0x5A :: covered ++ bytes2 (crc covered).toNat →
    ((s.port n).faulted = true → openDialogue n k body s =
      ({ s with ports := tset s.ports n { s.port n with lateRecord := some k } }, true)) ∧
    (∀ q, (s.port n).faulted = false → (s.port n).sending = none → (s.port n).divisor = some q →
      openDialogue n k body s = ({ s with ports := tset s.ports n { s.port n with
        sending := some { bytes := frame, bitTicks := 16 * q, doneAt := s.now + frame.length * 11 * (16 * q) }
        dialogue := some { kind := k, body := body, transmit := .sending, timer := none } } }, false)) ∧
    ((s.port n).faulted = false → (s.port n).sending ≠ none →
      openDialogue n k body s = ({ s with ports := tset s.ports n { s.port n with
        waiting := some frame
        dialogue := some { kind := k, body := body, transmit := .waiting, timer := none } } }, false))) ∧
  (∀ (n : Fin 16) (p : StationPlan) (s : State), s.stationPlan n = some p →
    ((s.port n).sending = none → exec (.fieldFrameSent n) s = .next (finish s)) ∧
    ∀ x u, (s.port n).sending = some x → u = reach x.doneAt s →
      (∀ d, (s.port n).waiting = none → (s.port n).dialogue = some d → d.transmit = .sending →
        exec (.fieldFrameSent n) s = .next (finish { u with ports := tset s.ports n { s.port n with
          sending := none
          dialogue := some { d with transmit := .sent, timer := some (u.now + p.dialogueTimeout * 16000) } } })) ∧
      ((s.port n).waiting = none → (∀ d, (s.port n).dialogue = some d → d.transmit ≠ .sending) →
        exec (.fieldFrameSent n) s = .next (finish { u with
          ports := tset s.ports n { s.port n with sending := none } })) ∧
      (∀ d w q, (s.port n).waiting = some w → (s.port n).divisor = some q → (s.port n).dialogue = some d →
        d.transmit = .waiting →
        exec (.fieldFrameSent n) s = .next (finish { u with ports := tset s.ports n { s.port n with
          sending := some { bytes := w, bitTicks := 16 * q, doneAt := u.now + w.length * 11 * (16 * q) }
          waiting := none
          dialogue := some { d with transmit := .sending } } })) ∧
      ∀ w q, (s.port n).waiting = some w → (s.port n).divisor = some q → (s.port n).dialogue = none →
        exec (.fieldFrameSent n) s = .next (finish { u with ports := tset s.ports n { s.port n with
          sending := some { bytes := w, bitTicks := 16 * q, doneAt := u.now + w.length * 11 * (16 * q) }
          waiting := none } })) ∧
  ∀ (n : Fin 16) (s : State),
    ((∀ d, (s.port n).dialogue = some d → d.timer = none) → exec (.dialogueTimeout n) s = .next (finish s)) ∧
    ∀ d x v, (s.port n).dialogue = some d → d.timer = some x →
      v = { reach x s with ports := tset s.ports n { s.port n with
        dialogue := none, timeouts := satInc 255 (s.port n).timeouts, lateRecord := some d.kind } } →
      (s.laneOf n = none → exec (.dialogueTimeout n) s = .next (finish v)) ∧
      ∀ l p r, s.laneOf n = some l → s.stationPlan n = some p → s.station n = some r →
        (∀ q ∈ s.adm.queue, q.station ≠ n) →
        exec (.dialogueTimeout n) s = .next (finish (afterFailure d.kind l n p r v))

/-! ### Invariants that every step keeps -/

/-- R172, R175, R176, R178, R179: from every state whose host link is in order, a step leaves it in order: at most four
frames wait to be dispatched and only behind a reply, at most 32 notices wait, the rate is one the straps select, and an
idle transmitter has nothing to send. R137, R140, R143 to R147: from every state whose field ports are in order, a step
leaves them in order: counters in their ranges, FAULTED from eight bad frames in a row on, with no dialogue, the divisor
of the rate, and the dialogue timer running exactly once the message is sent. -/
def Obligations.LinkInvariantKept : Prop :=
  (∀ s t : State, LinkInv s.link → step s = .next t → LinkInv t.link) ∧
  ∀ s t : State, PortsInv s → step s = .next t → PortsInv t

/-- R76, R77, R87: from every state whose channel records are in order, a step leaves them in order: the relay is
energised exactly outside FOLLOW, the output stage is on exactly when driven without a latched overload, and a reversal
has its sense and its dwell. R79, R82 to R85, R109, R116 to R119: with PlanInv, PortsInv and RestartInv, a step also
keeps RegulatorInv: the TRACK count of a zone is the number of its channels in TRACK; demand and target are present
exactly while it is above 0; a channel in TRACK aims at the zone's target, clamped to its own limits; a channel has a
target exactly outside FOLLOW; driven and observed levels, targets and demands are at most 1000. -/
def Obligations.ChannelsInvariantKept : Prop :=
  (∀ s t : State, ChannelsInv s → step s = .next t → ChannelsInv t) ∧
  ∀ s t : State, PlanInv s.plan → PortsInv s → RestartInv s → ChannelsInv s → RegulatorInv s → step s = .next t →
    RegulatorInv t

/-- R155, R158, R160: from every state whose Time Base record is in order, a step leaves it in order: at most eight
samples, each in the acceptance window, P their mean, time present exactly outside UNSET, FINE with eight samples, and
the timers of each time state running in it alone. -/
def Obligations.TimeInvariantKept : Prop :=
  ∀ s t : State, TimeInv s.time → step s = .next t → TimeInv t.time

/-- R98, R99, R100: from every state whose scan is in order, a step leaves it in order: mode and trigger agree, the
quantities lie in their ranges, the period timer runs exactly in CYCLIC mode with trigger PERIOD, and a conversion is
in progress exactly while SCANNING. -/
def Obligations.ScanInvariantKept : Prop :=
  ∀ s t : State, ScanInv s.scan → step s = .next t → ScanInv t.scan

/-- R1, R2, R4 to R11, R18: from every state whose plan is in order, a step leaves it in order: every stored record
lies in its ranges, a READY plan passes the check and holds the values derived from it, and no channel of a LIGHT zone
carries another sense than KEEP. -/
def Obligations.PlanInvariantKept : Prop :=
  ∀ s t : State, PlanInv s.plan → step s = .next t → PlanInv t.plan

/-- R3, R19, R26, R28, R34, R36, R40, R41, R45, R55, R58, R64, R146: from every state with PlanInv (the plan in order),
PortsInv (the field ports in order) and RestartInv (the restart in order), a step keeps RestartInv: one queue entry for
a station; a station QUEUED under its entry and ACTIVE in its lane alone; lanes filled below lanes-in-use; nothing
waiting outside a campaign; a channel out of FOLLOW reserved, and the reserved channels those of the stations that hold
them, under the cover inequality of each zone; attempts at most the retry limit + 1; the restart line asserted in
RESTART alone; and on each port the dialogue of its station's stage. -/
def Obligations.RestartInvariantKept : Prop :=
  ∀ s t : State, PlanInv s.plan → PortsInv s → RestartInv s → step s = .next t → RestartInv t
end

