-- ==== Sys2Proof/Laws/Table.lean ====
section
/-! SUPPORT. Reading a table after each of its operations. -/

namespace Sys2Proof

variable {α β : Type} {n : Nat}

@[simp] theorem tget_tset (t : Vector α n) (i j : Fin n) (a : α) :
    tget (tset t i a) j = if j = i then a else tget t j := by
  simp only [tget, tset, Vector.getElem_set, Fin.ext_iff, eq_comm]

@[simp] theorem tget_tmod (t : Vector α n) (i j : Fin n) (f : α → α) :
    tget (tmod t i f) j = if j = i then f (tget t i) else tget t j := tget_tset _ _ _ _

@[simp] theorem tget_tmap (f : Fin n → α → β) (t : Vector α n) (i : Fin n) :
    tget (tmap f t) i = f i (tget t i) := by
  simp [tget, tmap]

@[simp] theorem tget_tmake (f : Fin n → α) (i : Fin n) : tget (tmake f) i = f i := by
  simp [tget, tmake]

@[simp] theorem tget_tfill (a : α) (i : Fin n) : tget (tfill n a) i = a := by
  simp [tget, tfill]

/-- Two tables are equal when every entry is. -/
theorem tables_eq {t u : Vector α n} (h : ∀ i, tget t i = tget u i) : t = u :=
  Vector.ext fun i hi => h ⟨i, hi⟩

/-- Writing an entry back changes nothing. -/
@[simp] theorem tset_tget (t : Vector α n) (i : Fin n) : tset t i (tget t i) = t := by
  refine tables_eq fun j => ?_
  by_cases h : j = i <;> simp [h]

end Sys2Proof
end

