-- ==== Sys2Proof/Laws/State.lean ====
section
/-! SUPPORT. What each setter of a block or a record leaves in each field of the state. -/

namespace Sys2Proof.Machine

/-! ### setNow -/

@[simp] theorem State.setNow_now (s : State) (v : Nat) : (s.setNow v).now = v := rfl
@[simp] theorem State.setNow_pins (s : State) (v : Nat) : (s.setNow v).pins = s.pins := rfl
@[simp] theorem State.setNow_plan (s : State) (v : Nat) : (s.setNow v).plan = s.plan := rfl
@[simp] theorem State.setNow_adm (s : State) (v : Nat) : (s.setNow v).adm = s.adm := rfl
@[simp] theorem State.setNow_lane (s : State) (v : Nat) : (s.setNow v).lane = s.lane := rfl
@[simp] theorem State.setNow_chan (s : State) (v : Nat) : (s.setNow v).chan = s.chan := rfl
@[simp] theorem State.setNow_scan (s : State) (v : Nat) : (s.setNow v).scan = s.scan := rfl
@[simp] theorem State.setNow_reg (s : State) (v : Nat) : (s.setNow v).reg = s.reg := rfl
@[simp] theorem State.setNow_inc (s : State) (v : Nat) : (s.setNow v).inc = s.inc := rfl
@[simp] theorem State.setNow_ports (s : State) (v : Nat) : (s.setNow v).ports = s.ports := rfl
@[simp] theorem State.setNow_time (s : State) (v : Nat) : (s.setNow v).time = s.time := rfl
@[simp] theorem State.setNow_link (s : State) (v : Nat) : (s.setNow v).link = s.link := rfl
@[simp] theorem State.setNow_outbox (s : State) (v : Nat) : (s.setNow v).outbox = s.outbox := rfl
@[simp] theorem State.setNow_free (s : State) (v : Nat) : (s.setNow v).free = s.free := rfl
@[simp] theorem State.setNow_pending (s : State) (v : Nat) : (s.setNow v).pending = s.pending := rfl

/-! ### setPins -/

@[simp] theorem State.setPins_now (s : State) (v : Inputs) : (s.setPins v).now = s.now := rfl
@[simp] theorem State.setPins_pins (s : State) (v : Inputs) : (s.setPins v).pins = v := rfl
@[simp] theorem State.setPins_plan (s : State) (v : Inputs) : (s.setPins v).plan = s.plan := rfl
@[simp] theorem State.setPins_adm (s : State) (v : Inputs) : (s.setPins v).adm = s.adm := rfl
@[simp] theorem State.setPins_lane (s : State) (v : Inputs) : (s.setPins v).lane = s.lane := rfl
@[simp] theorem State.setPins_chan (s : State) (v : Inputs) : (s.setPins v).chan = s.chan := rfl
@[simp] theorem State.setPins_scan (s : State) (v : Inputs) : (s.setPins v).scan = s.scan := rfl
@[simp] theorem State.setPins_reg (s : State) (v : Inputs) : (s.setPins v).reg = s.reg := rfl
@[simp] theorem State.setPins_inc (s : State) (v : Inputs) : (s.setPins v).inc = s.inc := rfl
@[simp] theorem State.setPins_ports (s : State) (v : Inputs) : (s.setPins v).ports = s.ports := rfl
@[simp] theorem State.setPins_time (s : State) (v : Inputs) : (s.setPins v).time = s.time := rfl
@[simp] theorem State.setPins_link (s : State) (v : Inputs) : (s.setPins v).link = s.link := rfl
@[simp] theorem State.setPins_outbox (s : State) (v : Inputs) : (s.setPins v).outbox = s.outbox := rfl
@[simp] theorem State.setPins_free (s : State) (v : Inputs) : (s.setPins v).free = s.free := rfl
@[simp] theorem State.setPins_pending (s : State) (v : Inputs) : (s.setPins v).pending = s.pending := rfl

/-! ### setPlan -/

@[simp] theorem State.setPlan_now (s : State) (v : PlanStore) : (s.setPlan v).now = s.now := rfl
@[simp] theorem State.setPlan_pins (s : State) (v : PlanStore) : (s.setPlan v).pins = s.pins := rfl
@[simp] theorem State.setPlan_plan (s : State) (v : PlanStore) : (s.setPlan v).plan = v := rfl
@[simp] theorem State.setPlan_adm (s : State) (v : PlanStore) : (s.setPlan v).adm = s.adm := rfl
@[simp] theorem State.setPlan_lane (s : State) (v : PlanStore) : (s.setPlan v).lane = s.lane := rfl
@[simp] theorem State.setPlan_chan (s : State) (v : PlanStore) : (s.setPlan v).chan = s.chan := rfl
@[simp] theorem State.setPlan_scan (s : State) (v : PlanStore) : (s.setPlan v).scan = s.scan := rfl
@[simp] theorem State.setPlan_reg (s : State) (v : PlanStore) : (s.setPlan v).reg = s.reg := rfl
@[simp] theorem State.setPlan_inc (s : State) (v : PlanStore) : (s.setPlan v).inc = s.inc := rfl
@[simp] theorem State.setPlan_ports (s : State) (v : PlanStore) : (s.setPlan v).ports = s.ports := rfl
@[simp] theorem State.setPlan_time (s : State) (v : PlanStore) : (s.setPlan v).time = s.time := rfl
@[simp] theorem State.setPlan_link (s : State) (v : PlanStore) : (s.setPlan v).link = s.link := rfl
@[simp] theorem State.setPlan_outbox (s : State) (v : PlanStore) : (s.setPlan v).outbox = s.outbox := rfl
@[simp] theorem State.setPlan_free (s : State) (v : PlanStore) : (s.setPlan v).free = s.free := rfl
@[simp] theorem State.setPlan_pending (s : State) (v : PlanStore) : (s.setPlan v).pending = s.pending := rfl

/-! ### setAdm -/

@[simp] theorem State.setAdm_now (s : State) (v : Admission) : (s.setAdm v).now = s.now := rfl
@[simp] theorem State.setAdm_pins (s : State) (v : Admission) : (s.setAdm v).pins = s.pins := rfl
@[simp] theorem State.setAdm_plan (s : State) (v : Admission) : (s.setAdm v).plan = s.plan := rfl
@[simp] theorem State.setAdm_adm (s : State) (v : Admission) : (s.setAdm v).adm = v := rfl
@[simp] theorem State.setAdm_lane (s : State) (v : Admission) : (s.setAdm v).lane = s.lane := rfl
@[simp] theorem State.setAdm_chan (s : State) (v : Admission) : (s.setAdm v).chan = s.chan := rfl
@[simp] theorem State.setAdm_scan (s : State) (v : Admission) : (s.setAdm v).scan = s.scan := rfl
@[simp] theorem State.setAdm_reg (s : State) (v : Admission) : (s.setAdm v).reg = s.reg := rfl
@[simp] theorem State.setAdm_inc (s : State) (v : Admission) : (s.setAdm v).inc = s.inc := rfl
@[simp] theorem State.setAdm_ports (s : State) (v : Admission) : (s.setAdm v).ports = s.ports := rfl
@[simp] theorem State.setAdm_time (s : State) (v : Admission) : (s.setAdm v).time = s.time := rfl
@[simp] theorem State.setAdm_link (s : State) (v : Admission) : (s.setAdm v).link = s.link := rfl
@[simp] theorem State.setAdm_outbox (s : State) (v : Admission) : (s.setAdm v).outbox = s.outbox := rfl
@[simp] theorem State.setAdm_free (s : State) (v : Admission) : (s.setAdm v).free = s.free := rfl
@[simp] theorem State.setAdm_pending (s : State) (v : Admission) : (s.setAdm v).pending = s.pending := rfl

/-! ### setLane -/

@[simp] theorem State.setLane_now (s : State) (v : LaneUnit) : (s.setLane v).now = s.now := rfl
@[simp] theorem State.setLane_pins (s : State) (v : LaneUnit) : (s.setLane v).pins = s.pins := rfl
@[simp] theorem State.setLane_plan (s : State) (v : LaneUnit) : (s.setLane v).plan = s.plan := rfl
@[simp] theorem State.setLane_adm (s : State) (v : LaneUnit) : (s.setLane v).adm = s.adm := rfl
@[simp] theorem State.setLane_lane (s : State) (v : LaneUnit) : (s.setLane v).lane = v := rfl
@[simp] theorem State.setLane_chan (s : State) (v : LaneUnit) : (s.setLane v).chan = s.chan := rfl
@[simp] theorem State.setLane_scan (s : State) (v : LaneUnit) : (s.setLane v).scan = s.scan := rfl
@[simp] theorem State.setLane_reg (s : State) (v : LaneUnit) : (s.setLane v).reg = s.reg := rfl
@[simp] theorem State.setLane_inc (s : State) (v : LaneUnit) : (s.setLane v).inc = s.inc := rfl
@[simp] theorem State.setLane_ports (s : State) (v : LaneUnit) : (s.setLane v).ports = s.ports := rfl
@[simp] theorem State.setLane_time (s : State) (v : LaneUnit) : (s.setLane v).time = s.time := rfl
@[simp] theorem State.setLane_link (s : State) (v : LaneUnit) : (s.setLane v).link = s.link := rfl
@[simp] theorem State.setLane_outbox (s : State) (v : LaneUnit) : (s.setLane v).outbox = s.outbox := rfl
@[simp] theorem State.setLane_free (s : State) (v : LaneUnit) : (s.setLane v).free = s.free := rfl
@[simp] theorem State.setLane_pending (s : State) (v : LaneUnit) : (s.setLane v).pending = s.pending := rfl

/-! ### setChan -/

@[simp] theorem State.setChan_now (s : State) (v : ChannelUnit) : (s.setChan v).now = s.now := rfl
@[simp] theorem State.setChan_pins (s : State) (v : ChannelUnit) : (s.setChan v).pins = s.pins := rfl
@[simp] theorem State.setChan_plan (s : State) (v : ChannelUnit) : (s.setChan v).plan = s.plan := rfl
@[simp] theorem State.setChan_adm (s : State) (v : ChannelUnit) : (s.setChan v).adm = s.adm := rfl
@[simp] theorem State.setChan_lane (s : State) (v : ChannelUnit) : (s.setChan v).lane = s.lane := rfl
@[simp] theorem State.setChan_chan (s : State) (v : ChannelUnit) : (s.setChan v).chan = v := rfl
@[simp] theorem State.setChan_scan (s : State) (v : ChannelUnit) : (s.setChan v).scan = s.scan := rfl
@[simp] theorem State.setChan_reg (s : State) (v : ChannelUnit) : (s.setChan v).reg = s.reg := rfl
@[simp] theorem State.setChan_inc (s : State) (v : ChannelUnit) : (s.setChan v).inc = s.inc := rfl
@[simp] theorem State.setChan_ports (s : State) (v : ChannelUnit) : (s.setChan v).ports = s.ports := rfl
@[simp] theorem State.setChan_time (s : State) (v : ChannelUnit) : (s.setChan v).time = s.time := rfl
@[simp] theorem State.setChan_link (s : State) (v : ChannelUnit) : (s.setChan v).link = s.link := rfl
@[simp] theorem State.setChan_outbox (s : State) (v : ChannelUnit) : (s.setChan v).outbox = s.outbox := rfl
@[simp] theorem State.setChan_free (s : State) (v : ChannelUnit) : (s.setChan v).free = s.free := rfl
@[simp] theorem State.setChan_pending (s : State) (v : ChannelUnit) : (s.setChan v).pending = s.pending := rfl

/-! ### setScan -/

@[simp] theorem State.setScan_now (s : State) (v : ScanUnit) : (s.setScan v).now = s.now := rfl
@[simp] theorem State.setScan_pins (s : State) (v : ScanUnit) : (s.setScan v).pins = s.pins := rfl
@[simp] theorem State.setScan_plan (s : State) (v : ScanUnit) : (s.setScan v).plan = s.plan := rfl
@[simp] theorem State.setScan_adm (s : State) (v : ScanUnit) : (s.setScan v).adm = s.adm := rfl
@[simp] theorem State.setScan_lane (s : State) (v : ScanUnit) : (s.setScan v).lane = s.lane := rfl
@[simp] theorem State.setScan_chan (s : State) (v : ScanUnit) : (s.setScan v).chan = s.chan := rfl
@[simp] theorem State.setScan_scan (s : State) (v : ScanUnit) : (s.setScan v).scan = v := rfl
@[simp] theorem State.setScan_reg (s : State) (v : ScanUnit) : (s.setScan v).reg = s.reg := rfl
@[simp] theorem State.setScan_inc (s : State) (v : ScanUnit) : (s.setScan v).inc = s.inc := rfl
@[simp] theorem State.setScan_ports (s : State) (v : ScanUnit) : (s.setScan v).ports = s.ports := rfl
@[simp] theorem State.setScan_time (s : State) (v : ScanUnit) : (s.setScan v).time = s.time := rfl
@[simp] theorem State.setScan_link (s : State) (v : ScanUnit) : (s.setScan v).link = s.link := rfl
@[simp] theorem State.setScan_outbox (s : State) (v : ScanUnit) : (s.setScan v).outbox = s.outbox := rfl
@[simp] theorem State.setScan_free (s : State) (v : ScanUnit) : (s.setScan v).free = s.free := rfl
@[simp] theorem State.setScan_pending (s : State) (v : ScanUnit) : (s.setScan v).pending = s.pending := rfl

/-! ### setReg -/

@[simp] theorem State.setReg_now (s : State) (v : Regulator) : (s.setReg v).now = s.now := rfl
@[simp] theorem State.setReg_pins (s : State) (v : Regulator) : (s.setReg v).pins = s.pins := rfl
@[simp] theorem State.setReg_plan (s : State) (v : Regulator) : (s.setReg v).plan = s.plan := rfl
@[simp] theorem State.setReg_adm (s : State) (v : Regulator) : (s.setReg v).adm = s.adm := rfl
@[simp] theorem State.setReg_lane (s : State) (v : Regulator) : (s.setReg v).lane = s.lane := rfl
@[simp] theorem State.setReg_chan (s : State) (v : Regulator) : (s.setReg v).chan = s.chan := rfl
@[simp] theorem State.setReg_scan (s : State) (v : Regulator) : (s.setReg v).scan = s.scan := rfl
@[simp] theorem State.setReg_reg (s : State) (v : Regulator) : (s.setReg v).reg = v := rfl
@[simp] theorem State.setReg_inc (s : State) (v : Regulator) : (s.setReg v).inc = s.inc := rfl
@[simp] theorem State.setReg_ports (s : State) (v : Regulator) : (s.setReg v).ports = s.ports := rfl
@[simp] theorem State.setReg_time (s : State) (v : Regulator) : (s.setReg v).time = s.time := rfl
@[simp] theorem State.setReg_link (s : State) (v : Regulator) : (s.setReg v).link = s.link := rfl
@[simp] theorem State.setReg_outbox (s : State) (v : Regulator) : (s.setReg v).outbox = s.outbox := rfl
@[simp] theorem State.setReg_free (s : State) (v : Regulator) : (s.setReg v).free = s.free := rfl
@[simp] theorem State.setReg_pending (s : State) (v : Regulator) : (s.setReg v).pending = s.pending := rfl

/-! ### setInc -/

@[simp] theorem State.setInc_now (s : State) (v : IncidentInput) : (s.setInc v).now = s.now := rfl
@[simp] theorem State.setInc_pins (s : State) (v : IncidentInput) : (s.setInc v).pins = s.pins := rfl
@[simp] theorem State.setInc_plan (s : State) (v : IncidentInput) : (s.setInc v).plan = s.plan := rfl
@[simp] theorem State.setInc_adm (s : State) (v : IncidentInput) : (s.setInc v).adm = s.adm := rfl
@[simp] theorem State.setInc_lane (s : State) (v : IncidentInput) : (s.setInc v).lane = s.lane := rfl
@[simp] theorem State.setInc_chan (s : State) (v : IncidentInput) : (s.setInc v).chan = s.chan := rfl
@[simp] theorem State.setInc_scan (s : State) (v : IncidentInput) : (s.setInc v).scan = s.scan := rfl
@[simp] theorem State.setInc_reg (s : State) (v : IncidentInput) : (s.setInc v).reg = s.reg := rfl
@[simp] theorem State.setInc_inc (s : State) (v : IncidentInput) : (s.setInc v).inc = v := rfl
@[simp] theorem State.setInc_ports (s : State) (v : IncidentInput) : (s.setInc v).ports = s.ports := rfl
@[simp] theorem State.setInc_time (s : State) (v : IncidentInput) : (s.setInc v).time = s.time := rfl
@[simp] theorem State.setInc_link (s : State) (v : IncidentInput) : (s.setInc v).link = s.link := rfl
@[simp] theorem State.setInc_outbox (s : State) (v : IncidentInput) : (s.setInc v).outbox = s.outbox := rfl
@[simp] theorem State.setInc_free (s : State) (v : IncidentInput) : (s.setInc v).free = s.free := rfl
@[simp] theorem State.setInc_pending (s : State) (v : IncidentInput) : (s.setInc v).pending = s.pending := rfl

/-! ### setPorts -/

@[simp] theorem State.setPorts_now (s : State) (v : Vector Port 16) : (s.setPorts v).now = s.now := rfl
@[simp] theorem State.setPorts_pins (s : State) (v : Vector Port 16) : (s.setPorts v).pins = s.pins := rfl
@[simp] theorem State.setPorts_plan (s : State) (v : Vector Port 16) : (s.setPorts v).plan = s.plan := rfl
@[simp] theorem State.setPorts_adm (s : State) (v : Vector Port 16) : (s.setPorts v).adm = s.adm := rfl
@[simp] theorem State.setPorts_lane (s : State) (v : Vector Port 16) : (s.setPorts v).lane = s.lane := rfl
@[simp] theorem State.setPorts_chan (s : State) (v : Vector Port 16) : (s.setPorts v).chan = s.chan := rfl
@[simp] theorem State.setPorts_scan (s : State) (v : Vector Port 16) : (s.setPorts v).scan = s.scan := rfl
@[simp] theorem State.setPorts_reg (s : State) (v : Vector Port 16) : (s.setPorts v).reg = s.reg := rfl
@[simp] theorem State.setPorts_inc (s : State) (v : Vector Port 16) : (s.setPorts v).inc = s.inc := rfl
@[simp] theorem State.setPorts_ports (s : State) (v : Vector Port 16) : (s.setPorts v).ports = v := rfl
@[simp] theorem State.setPorts_time (s : State) (v : Vector Port 16) : (s.setPorts v).time = s.time := rfl
@[simp] theorem State.setPorts_link (s : State) (v : Vector Port 16) : (s.setPorts v).link = s.link := rfl
@[simp] theorem State.setPorts_outbox (s : State) (v : Vector Port 16) : (s.setPorts v).outbox = s.outbox := rfl
@[simp] theorem State.setPorts_free (s : State) (v : Vector Port 16) : (s.setPorts v).free = s.free := rfl
@[simp] theorem State.setPorts_pending (s : State) (v : Vector Port 16) : (s.setPorts v).pending = s.pending := rfl

/-! ### setTime -/

@[simp] theorem State.setTime_now (s : State) (v : TimeBase) : (s.setTime v).now = s.now := rfl
@[simp] theorem State.setTime_pins (s : State) (v : TimeBase) : (s.setTime v).pins = s.pins := rfl
@[simp] theorem State.setTime_plan (s : State) (v : TimeBase) : (s.setTime v).plan = s.plan := rfl
@[simp] theorem State.setTime_adm (s : State) (v : TimeBase) : (s.setTime v).adm = s.adm := rfl
@[simp] theorem State.setTime_lane (s : State) (v : TimeBase) : (s.setTime v).lane = s.lane := rfl
@[simp] theorem State.setTime_chan (s : State) (v : TimeBase) : (s.setTime v).chan = s.chan := rfl
@[simp] theorem State.setTime_scan (s : State) (v : TimeBase) : (s.setTime v).scan = s.scan := rfl
@[simp] theorem State.setTime_reg (s : State) (v : TimeBase) : (s.setTime v).reg = s.reg := rfl
@[simp] theorem State.setTime_inc (s : State) (v : TimeBase) : (s.setTime v).inc = s.inc := rfl
@[simp] theorem State.setTime_ports (s : State) (v : TimeBase) : (s.setTime v).ports = s.ports := rfl
@[simp] theorem State.setTime_time (s : State) (v : TimeBase) : (s.setTime v).time = v := rfl
@[simp] theorem State.setTime_link (s : State) (v : TimeBase) : (s.setTime v).link = s.link := rfl
@[simp] theorem State.setTime_outbox (s : State) (v : TimeBase) : (s.setTime v).outbox = s.outbox := rfl
@[simp] theorem State.setTime_free (s : State) (v : TimeBase) : (s.setTime v).free = s.free := rfl
@[simp] theorem State.setTime_pending (s : State) (v : TimeBase) : (s.setTime v).pending = s.pending := rfl

/-! ### setLink -/

@[simp] theorem State.setLink_now (s : State) (v : HostLink) : (s.setLink v).now = s.now := rfl
@[simp] theorem State.setLink_pins (s : State) (v : HostLink) : (s.setLink v).pins = s.pins := rfl
@[simp] theorem State.setLink_plan (s : State) (v : HostLink) : (s.setLink v).plan = s.plan := rfl
@[simp] theorem State.setLink_adm (s : State) (v : HostLink) : (s.setLink v).adm = s.adm := rfl
@[simp] theorem State.setLink_lane (s : State) (v : HostLink) : (s.setLink v).lane = s.lane := rfl
@[simp] theorem State.setLink_chan (s : State) (v : HostLink) : (s.setLink v).chan = s.chan := rfl
@[simp] theorem State.setLink_scan (s : State) (v : HostLink) : (s.setLink v).scan = s.scan := rfl
@[simp] theorem State.setLink_reg (s : State) (v : HostLink) : (s.setLink v).reg = s.reg := rfl
@[simp] theorem State.setLink_inc (s : State) (v : HostLink) : (s.setLink v).inc = s.inc := rfl
@[simp] theorem State.setLink_ports (s : State) (v : HostLink) : (s.setLink v).ports = s.ports := rfl
@[simp] theorem State.setLink_time (s : State) (v : HostLink) : (s.setLink v).time = s.time := rfl
@[simp] theorem State.setLink_link (s : State) (v : HostLink) : (s.setLink v).link = v := rfl
@[simp] theorem State.setLink_outbox (s : State) (v : HostLink) : (s.setLink v).outbox = s.outbox := rfl
@[simp] theorem State.setLink_free (s : State) (v : HostLink) : (s.setLink v).free = s.free := rfl
@[simp] theorem State.setLink_pending (s : State) (v : HostLink) : (s.setLink v).pending = s.pending := rfl

/-! ### setOutbox -/

@[simp] theorem State.setOutbox_now (s : State) (v : List (Block × Notice)) : (s.setOutbox v).now = s.now := rfl
@[simp] theorem State.setOutbox_pins (s : State) (v : List (Block × Notice)) : (s.setOutbox v).pins = s.pins := rfl
@[simp] theorem State.setOutbox_plan (s : State) (v : List (Block × Notice)) : (s.setOutbox v).plan = s.plan := rfl
@[simp] theorem State.setOutbox_adm (s : State) (v : List (Block × Notice)) : (s.setOutbox v).adm = s.adm := rfl
@[simp] theorem State.setOutbox_lane (s : State) (v : List (Block × Notice)) : (s.setOutbox v).lane = s.lane := rfl
@[simp] theorem State.setOutbox_chan (s : State) (v : List (Block × Notice)) : (s.setOutbox v).chan = s.chan := rfl
@[simp] theorem State.setOutbox_scan (s : State) (v : List (Block × Notice)) : (s.setOutbox v).scan = s.scan := rfl
@[simp] theorem State.setOutbox_reg (s : State) (v : List (Block × Notice)) : (s.setOutbox v).reg = s.reg := rfl
@[simp] theorem State.setOutbox_inc (s : State) (v : List (Block × Notice)) : (s.setOutbox v).inc = s.inc := rfl
@[simp] theorem State.setOutbox_ports (s : State) (v : List (Block × Notice)) : (s.setOutbox v).ports = s.ports := rfl
@[simp] theorem State.setOutbox_time (s : State) (v : List (Block × Notice)) : (s.setOutbox v).time = s.time := rfl
@[simp] theorem State.setOutbox_link (s : State) (v : List (Block × Notice)) : (s.setOutbox v).link = s.link := rfl
@[simp] theorem State.setOutbox_outbox (s : State) (v : List (Block × Notice)) : (s.setOutbox v).outbox = v := rfl
@[simp] theorem State.setOutbox_free (s : State) (v : List (Block × Notice)) : (s.setOutbox v).free = s.free := rfl
@[simp] theorem State.setOutbox_pending (s : State) (v : List (Block × Notice)) : (s.setOutbox v).pending = s.pending := rfl

/-! ### setFree -/

@[simp] theorem State.setFree_now (s : State) (v : Nat) : (s.setFree v).now = s.now := rfl
@[simp] theorem State.setFree_pins (s : State) (v : Nat) : (s.setFree v).pins = s.pins := rfl
@[simp] theorem State.setFree_plan (s : State) (v : Nat) : (s.setFree v).plan = s.plan := rfl
@[simp] theorem State.setFree_adm (s : State) (v : Nat) : (s.setFree v).adm = s.adm := rfl
@[simp] theorem State.setFree_lane (s : State) (v : Nat) : (s.setFree v).lane = s.lane := rfl
@[simp] theorem State.setFree_chan (s : State) (v : Nat) : (s.setFree v).chan = s.chan := rfl
@[simp] theorem State.setFree_scan (s : State) (v : Nat) : (s.setFree v).scan = s.scan := rfl
@[simp] theorem State.setFree_reg (s : State) (v : Nat) : (s.setFree v).reg = s.reg := rfl
@[simp] theorem State.setFree_inc (s : State) (v : Nat) : (s.setFree v).inc = s.inc := rfl
@[simp] theorem State.setFree_ports (s : State) (v : Nat) : (s.setFree v).ports = s.ports := rfl
@[simp] theorem State.setFree_time (s : State) (v : Nat) : (s.setFree v).time = s.time := rfl
@[simp] theorem State.setFree_link (s : State) (v : Nat) : (s.setFree v).link = s.link := rfl
@[simp] theorem State.setFree_outbox (s : State) (v : Nat) : (s.setFree v).outbox = s.outbox := rfl
@[simp] theorem State.setFree_free (s : State) (v : Nat) : (s.setFree v).free = v := rfl
@[simp] theorem State.setFree_pending (s : State) (v : Nat) : (s.setFree v).pending = s.pending := rfl

/-! ### setPending -/

@[simp] theorem State.setPending_now (s : State) (v : List Instr) : (s.setPending v).now = s.now := rfl
@[simp] theorem State.setPending_pins (s : State) (v : List Instr) : (s.setPending v).pins = s.pins := rfl
@[simp] theorem State.setPending_plan (s : State) (v : List Instr) : (s.setPending v).plan = s.plan := rfl
@[simp] theorem State.setPending_adm (s : State) (v : List Instr) : (s.setPending v).adm = s.adm := rfl
@[simp] theorem State.setPending_lane (s : State) (v : List Instr) : (s.setPending v).lane = s.lane := rfl
@[simp] theorem State.setPending_chan (s : State) (v : List Instr) : (s.setPending v).chan = s.chan := rfl
@[simp] theorem State.setPending_scan (s : State) (v : List Instr) : (s.setPending v).scan = s.scan := rfl
@[simp] theorem State.setPending_reg (s : State) (v : List Instr) : (s.setPending v).reg = s.reg := rfl
@[simp] theorem State.setPending_inc (s : State) (v : List Instr) : (s.setPending v).inc = s.inc := rfl
@[simp] theorem State.setPending_ports (s : State) (v : List Instr) : (s.setPending v).ports = s.ports := rfl
@[simp] theorem State.setPending_time (s : State) (v : List Instr) : (s.setPending v).time = s.time := rfl
@[simp] theorem State.setPending_link (s : State) (v : List Instr) : (s.setPending v).link = s.link := rfl
@[simp] theorem State.setPending_outbox (s : State) (v : List Instr) : (s.setPending v).outbox = s.outbox := rfl
@[simp] theorem State.setPending_free (s : State) (v : List Instr) : (s.setPending v).free = s.free := rfl
@[simp] theorem State.setPending_pending (s : State) (v : List Instr) : (s.setPending v).pending = v := rfl

/-! ### setChannel -/

@[simp] theorem State.setChannel_now (s : State) (c : Fin 32) (r : Channel) : (s.setChannel c r).now = s.now := rfl
@[simp] theorem State.setChannel_pins (s : State) (c : Fin 32) (r : Channel) : (s.setChannel c r).pins = s.pins := rfl
@[simp] theorem State.setChannel_plan (s : State) (c : Fin 32) (r : Channel) : (s.setChannel c r).plan = s.plan := rfl
@[simp] theorem State.setChannel_adm (s : State) (c : Fin 32) (r : Channel) : (s.setChannel c r).adm = s.adm := rfl
@[simp] theorem State.setChannel_lane (s : State) (c : Fin 32) (r : Channel) : (s.setChannel c r).lane = s.lane := rfl
@[simp] theorem State.setChannel_scan (s : State) (c : Fin 32) (r : Channel) : (s.setChannel c r).scan = s.scan := rfl
@[simp] theorem State.setChannel_reg (s : State) (c : Fin 32) (r : Channel) : (s.setChannel c r).reg = s.reg := rfl
@[simp] theorem State.setChannel_inc (s : State) (c : Fin 32) (r : Channel) : (s.setChannel c r).inc = s.inc := rfl
@[simp] theorem State.setChannel_ports (s : State) (c : Fin 32) (r : Channel) : (s.setChannel c r).ports = s.ports := rfl
@[simp] theorem State.setChannel_time (s : State) (c : Fin 32) (r : Channel) : (s.setChannel c r).time = s.time := rfl
@[simp] theorem State.setChannel_link (s : State) (c : Fin 32) (r : Channel) : (s.setChannel c r).link = s.link := rfl
@[simp] theorem State.setChannel_outbox (s : State) (c : Fin 32) (r : Channel) : (s.setChannel c r).outbox = s.outbox := rfl
@[simp] theorem State.setChannel_free (s : State) (c : Fin 32) (r : Channel) : (s.setChannel c r).free = s.free := rfl
@[simp] theorem State.setChannel_pending (s : State) (c : Fin 32) (r : Channel) : (s.setChannel c r).pending = s.pending := rfl

/-! ### setLaneRec -/

@[simp] theorem State.setLaneRec_now (s : State) (l : Fin 4) (r : Lane) : (s.setLaneRec l r).now = s.now := rfl
@[simp] theorem State.setLaneRec_pins (s : State) (l : Fin 4) (r : Lane) : (s.setLaneRec l r).pins = s.pins := rfl
@[simp] theorem State.setLaneRec_plan (s : State) (l : Fin 4) (r : Lane) : (s.setLaneRec l r).plan = s.plan := rfl
@[simp] theorem State.setLaneRec_adm (s : State) (l : Fin 4) (r : Lane) : (s.setLaneRec l r).adm = s.adm := rfl
@[simp] theorem State.setLaneRec_chan (s : State) (l : Fin 4) (r : Lane) : (s.setLaneRec l r).chan = s.chan := rfl
@[simp] theorem State.setLaneRec_scan (s : State) (l : Fin 4) (r : Lane) : (s.setLaneRec l r).scan = s.scan := rfl
@[simp] theorem State.setLaneRec_reg (s : State) (l : Fin 4) (r : Lane) : (s.setLaneRec l r).reg = s.reg := rfl
@[simp] theorem State.setLaneRec_inc (s : State) (l : Fin 4) (r : Lane) : (s.setLaneRec l r).inc = s.inc := rfl
@[simp] theorem State.setLaneRec_ports (s : State) (l : Fin 4) (r : Lane) : (s.setLaneRec l r).ports = s.ports := rfl
@[simp] theorem State.setLaneRec_time (s : State) (l : Fin 4) (r : Lane) : (s.setLaneRec l r).time = s.time := rfl
@[simp] theorem State.setLaneRec_link (s : State) (l : Fin 4) (r : Lane) : (s.setLaneRec l r).link = s.link := rfl
@[simp] theorem State.setLaneRec_outbox (s : State) (l : Fin 4) (r : Lane) : (s.setLaneRec l r).outbox = s.outbox := rfl
@[simp] theorem State.setLaneRec_free (s : State) (l : Fin 4) (r : Lane) : (s.setLaneRec l r).free = s.free := rfl
@[simp] theorem State.setLaneRec_pending (s : State) (l : Fin 4) (r : Lane) : (s.setLaneRec l r).pending = s.pending := rfl

/-! ### setPort -/

@[simp] theorem State.setPort_now (s : State) (p : Fin 16) (r : Port) : (s.setPort p r).now = s.now := rfl
@[simp] theorem State.setPort_pins (s : State) (p : Fin 16) (r : Port) : (s.setPort p r).pins = s.pins := rfl
@[simp] theorem State.setPort_plan (s : State) (p : Fin 16) (r : Port) : (s.setPort p r).plan = s.plan := rfl
@[simp] theorem State.setPort_adm (s : State) (p : Fin 16) (r : Port) : (s.setPort p r).adm = s.adm := rfl
@[simp] theorem State.setPort_lane (s : State) (p : Fin 16) (r : Port) : (s.setPort p r).lane = s.lane := rfl
@[simp] theorem State.setPort_chan (s : State) (p : Fin 16) (r : Port) : (s.setPort p r).chan = s.chan := rfl
@[simp] theorem State.setPort_scan (s : State) (p : Fin 16) (r : Port) : (s.setPort p r).scan = s.scan := rfl
@[simp] theorem State.setPort_reg (s : State) (p : Fin 16) (r : Port) : (s.setPort p r).reg = s.reg := rfl
@[simp] theorem State.setPort_inc (s : State) (p : Fin 16) (r : Port) : (s.setPort p r).inc = s.inc := rfl
@[simp] theorem State.setPort_time (s : State) (p : Fin 16) (r : Port) : (s.setPort p r).time = s.time := rfl
@[simp] theorem State.setPort_link (s : State) (p : Fin 16) (r : Port) : (s.setPort p r).link = s.link := rfl
@[simp] theorem State.setPort_outbox (s : State) (p : Fin 16) (r : Port) : (s.setPort p r).outbox = s.outbox := rfl
@[simp] theorem State.setPort_free (s : State) (p : Fin 16) (r : Port) : (s.setPort p r).free = s.free := rfl
@[simp] theorem State.setPort_pending (s : State) (p : Fin 16) (r : Port) : (s.setPort p r).pending = s.pending := rfl

/-! ### setZoneRec -/

@[simp] theorem State.setZoneRec_now (s : State) (z : Fin 12) (r : ZoneRec) : (s.setZoneRec z r).now = s.now := rfl
@[simp] theorem State.setZoneRec_pins (s : State) (z : Fin 12) (r : ZoneRec) : (s.setZoneRec z r).pins = s.pins := rfl
@[simp] theorem State.setZoneRec_plan (s : State) (z : Fin 12) (r : ZoneRec) : (s.setZoneRec z r).plan = s.plan := rfl
@[simp] theorem State.setZoneRec_adm (s : State) (z : Fin 12) (r : ZoneRec) : (s.setZoneRec z r).adm = s.adm := rfl
@[simp] theorem State.setZoneRec_lane (s : State) (z : Fin 12) (r : ZoneRec) : (s.setZoneRec z r).lane = s.lane := rfl
@[simp] theorem State.setZoneRec_chan (s : State) (z : Fin 12) (r : ZoneRec) : (s.setZoneRec z r).chan = s.chan := rfl
@[simp] theorem State.setZoneRec_scan (s : State) (z : Fin 12) (r : ZoneRec) : (s.setZoneRec z r).scan = s.scan := rfl
@[simp] theorem State.setZoneRec_inc (s : State) (z : Fin 12) (r : ZoneRec) : (s.setZoneRec z r).inc = s.inc := rfl
@[simp] theorem State.setZoneRec_ports (s : State) (z : Fin 12) (r : ZoneRec) : (s.setZoneRec z r).ports = s.ports := rfl
@[simp] theorem State.setZoneRec_time (s : State) (z : Fin 12) (r : ZoneRec) : (s.setZoneRec z r).time = s.time := rfl
@[simp] theorem State.setZoneRec_link (s : State) (z : Fin 12) (r : ZoneRec) : (s.setZoneRec z r).link = s.link := rfl
@[simp] theorem State.setZoneRec_outbox (s : State) (z : Fin 12) (r : ZoneRec) : (s.setZoneRec z r).outbox = s.outbox := rfl
@[simp] theorem State.setZoneRec_free (s : State) (z : Fin 12) (r : ZoneRec) : (s.setZoneRec z r).free = s.free := rfl
@[simp] theorem State.setZoneRec_pending (s : State) (z : Fin 12) (r : ZoneRec) : (s.setZoneRec z r).pending = s.pending := rfl

/-! ### setInput -/

@[simp] theorem State.setInput_now (s : State) (i : Fin 8) (r : InputRec) : (s.setInput i r).now = s.now := rfl
@[simp] theorem State.setInput_pins (s : State) (i : Fin 8) (r : InputRec) : (s.setInput i r).pins = s.pins := rfl
@[simp] theorem State.setInput_plan (s : State) (i : Fin 8) (r : InputRec) : (s.setInput i r).plan = s.plan := rfl
@[simp] theorem State.setInput_adm (s : State) (i : Fin 8) (r : InputRec) : (s.setInput i r).adm = s.adm := rfl
@[simp] theorem State.setInput_lane (s : State) (i : Fin 8) (r : InputRec) : (s.setInput i r).lane = s.lane := rfl
@[simp] theorem State.setInput_chan (s : State) (i : Fin 8) (r : InputRec) : (s.setInput i r).chan = s.chan := rfl
@[simp] theorem State.setInput_reg (s : State) (i : Fin 8) (r : InputRec) : (s.setInput i r).reg = s.reg := rfl
@[simp] theorem State.setInput_inc (s : State) (i : Fin 8) (r : InputRec) : (s.setInput i r).inc = s.inc := rfl
@[simp] theorem State.setInput_ports (s : State) (i : Fin 8) (r : InputRec) : (s.setInput i r).ports = s.ports := rfl
@[simp] theorem State.setInput_time (s : State) (i : Fin 8) (r : InputRec) : (s.setInput i r).time = s.time := rfl
@[simp] theorem State.setInput_link (s : State) (i : Fin 8) (r : InputRec) : (s.setInput i r).link = s.link := rfl
@[simp] theorem State.setInput_outbox (s : State) (i : Fin 8) (r : InputRec) : (s.setInput i r).outbox = s.outbox := rfl
@[simp] theorem State.setInput_free (s : State) (i : Fin 8) (r : InputRec) : (s.setInput i r).free = s.free := rfl
@[simp] theorem State.setInput_pending (s : State) (i : Fin 8) (r : InputRec) : (s.setInput i r).pending = s.pending := rfl

/-! ### setStation -/

@[simp] theorem State.setStation_now (s : State) (n : Fin 16) (r : Option StationRec) : (s.setStation n r).now = s.now := rfl
@[simp] theorem State.setStation_pins (s : State) (n : Fin 16) (r : Option StationRec) : (s.setStation n r).pins = s.pins := rfl
@[simp] theorem State.setStation_plan (s : State) (n : Fin 16) (r : Option StationRec) : (s.setStation n r).plan = s.plan := rfl
@[simp] theorem State.setStation_lane (s : State) (n : Fin 16) (r : Option StationRec) : (s.setStation n r).lane = s.lane := rfl
@[simp] theorem State.setStation_chan (s : State) (n : Fin 16) (r : Option StationRec) : (s.setStation n r).chan = s.chan := rfl
@[simp] theorem State.setStation_scan (s : State) (n : Fin 16) (r : Option StationRec) : (s.setStation n r).scan = s.scan := rfl
@[simp] theorem State.setStation_reg (s : State) (n : Fin 16) (r : Option StationRec) : (s.setStation n r).reg = s.reg := rfl
@[simp] theorem State.setStation_inc (s : State) (n : Fin 16) (r : Option StationRec) : (s.setStation n r).inc = s.inc := rfl
@[simp] theorem State.setStation_ports (s : State) (n : Fin 16) (r : Option StationRec) : (s.setStation n r).ports = s.ports := rfl
@[simp] theorem State.setStation_time (s : State) (n : Fin 16) (r : Option StationRec) : (s.setStation n r).time = s.time := rfl
@[simp] theorem State.setStation_link (s : State) (n : Fin 16) (r : Option StationRec) : (s.setStation n r).link = s.link := rfl
@[simp] theorem State.setStation_outbox (s : State) (n : Fin 16) (r : Option StationRec) : (s.setStation n r).outbox = s.outbox := rfl
@[simp] theorem State.setStation_free (s : State) (n : Fin 16) (r : Option StationRec) : (s.setStation n r).free = s.free := rfl
@[simp] theorem State.setStation_pending (s : State) (n : Fin 16) (r : Option StationRec) : (s.setStation n r).pending = s.pending := rfl

/-! ### setGrace -/

@[simp] theorem State.setGrace_now (s : State) (n : Fin 16) (g : Grace) : (s.setGrace n g).now = s.now := rfl
@[simp] theorem State.setGrace_pins (s : State) (n : Fin 16) (g : Grace) : (s.setGrace n g).pins = s.pins := rfl
@[simp] theorem State.setGrace_plan (s : State) (n : Fin 16) (g : Grace) : (s.setGrace n g).plan = s.plan := rfl
@[simp] theorem State.setGrace_adm (s : State) (n : Fin 16) (g : Grace) : (s.setGrace n g).adm = s.adm := rfl
@[simp] theorem State.setGrace_chan (s : State) (n : Fin 16) (g : Grace) : (s.setGrace n g).chan = s.chan := rfl
@[simp] theorem State.setGrace_scan (s : State) (n : Fin 16) (g : Grace) : (s.setGrace n g).scan = s.scan := rfl
@[simp] theorem State.setGrace_reg (s : State) (n : Fin 16) (g : Grace) : (s.setGrace n g).reg = s.reg := rfl
@[simp] theorem State.setGrace_inc (s : State) (n : Fin 16) (g : Grace) : (s.setGrace n g).inc = s.inc := rfl
@[simp] theorem State.setGrace_ports (s : State) (n : Fin 16) (g : Grace) : (s.setGrace n g).ports = s.ports := rfl
@[simp] theorem State.setGrace_time (s : State) (n : Fin 16) (g : Grace) : (s.setGrace n g).time = s.time := rfl
@[simp] theorem State.setGrace_link (s : State) (n : Fin 16) (g : Grace) : (s.setGrace n g).link = s.link := rfl
@[simp] theorem State.setGrace_outbox (s : State) (n : Fin 16) (g : Grace) : (s.setGrace n g).outbox = s.outbox := rfl
@[simp] theorem State.setGrace_free (s : State) (n : Fin 16) (g : Grace) : (s.setGrace n g).free = s.free := rfl
@[simp] theorem State.setGrace_pending (s : State) (n : Fin 16) (g : Grace) : (s.setGrace n g).pending = s.pending := rfl

/-! ### setRestartLine -/

@[simp] theorem State.setRestartLine_now (s : State) (n : Fin 16) (b : Bool) : (s.setRestartLine n b).now = s.now := rfl
@[simp] theorem State.setRestartLine_pins (s : State) (n : Fin 16) (b : Bool) : (s.setRestartLine n b).pins = s.pins := rfl
@[simp] theorem State.setRestartLine_plan (s : State) (n : Fin 16) (b : Bool) : (s.setRestartLine n b).plan = s.plan := rfl
@[simp] theorem State.setRestartLine_adm (s : State) (n : Fin 16) (b : Bool) : (s.setRestartLine n b).adm = s.adm := rfl
@[simp] theorem State.setRestartLine_chan (s : State) (n : Fin 16) (b : Bool) : (s.setRestartLine n b).chan = s.chan := rfl
@[simp] theorem State.setRestartLine_scan (s : State) (n : Fin 16) (b : Bool) : (s.setRestartLine n b).scan = s.scan := rfl
@[simp] theorem State.setRestartLine_reg (s : State) (n : Fin 16) (b : Bool) : (s.setRestartLine n b).reg = s.reg := rfl
@[simp] theorem State.setRestartLine_inc (s : State) (n : Fin 16) (b : Bool) : (s.setRestartLine n b).inc = s.inc := rfl
@[simp] theorem State.setRestartLine_ports (s : State) (n : Fin 16) (b : Bool) : (s.setRestartLine n b).ports = s.ports := rfl
@[simp] theorem State.setRestartLine_time (s : State) (n : Fin 16) (b : Bool) : (s.setRestartLine n b).time = s.time := rfl
@[simp] theorem State.setRestartLine_link (s : State) (n : Fin 16) (b : Bool) : (s.setRestartLine n b).link = s.link := rfl
@[simp] theorem State.setRestartLine_outbox (s : State) (n : Fin 16) (b : Bool) : (s.setRestartLine n b).outbox = s.outbox := rfl
@[simp] theorem State.setRestartLine_free (s : State) (n : Fin 16) (b : Bool) : (s.setRestartLine n b).free = s.free := rfl
@[simp] theorem State.setRestartLine_pending (s : State) (n : Fin 16) (b : Bool) : (s.setRestartLine n b).pending = s.pending := rfl

/-! ### setQueue -/

@[simp] theorem State.setQueue_now (s : State) (q : List QueueEntry) : (s.setQueue q).now = s.now := rfl
@[simp] theorem State.setQueue_pins (s : State) (q : List QueueEntry) : (s.setQueue q).pins = s.pins := rfl
@[simp] theorem State.setQueue_plan (s : State) (q : List QueueEntry) : (s.setQueue q).plan = s.plan := rfl
@[simp] theorem State.setQueue_lane (s : State) (q : List QueueEntry) : (s.setQueue q).lane = s.lane := rfl
@[simp] theorem State.setQueue_chan (s : State) (q : List QueueEntry) : (s.setQueue q).chan = s.chan := rfl
@[simp] theorem State.setQueue_scan (s : State) (q : List QueueEntry) : (s.setQueue q).scan = s.scan := rfl
@[simp] theorem State.setQueue_reg (s : State) (q : List QueueEntry) : (s.setQueue q).reg = s.reg := rfl
@[simp] theorem State.setQueue_inc (s : State) (q : List QueueEntry) : (s.setQueue q).inc = s.inc := rfl
@[simp] theorem State.setQueue_ports (s : State) (q : List QueueEntry) : (s.setQueue q).ports = s.ports := rfl
@[simp] theorem State.setQueue_time (s : State) (q : List QueueEntry) : (s.setQueue q).time = s.time := rfl
@[simp] theorem State.setQueue_link (s : State) (q : List QueueEntry) : (s.setQueue q).link = s.link := rfl
@[simp] theorem State.setQueue_outbox (s : State) (q : List QueueEntry) : (s.setQueue q).outbox = s.outbox := rfl
@[simp] theorem State.setQueue_free (s : State) (q : List QueueEntry) : (s.setQueue q).free = s.free := rfl
@[simp] theorem State.setQueue_pending (s : State) (q : List QueueEntry) : (s.setQueue q).pending = s.pending := rfl

/-! ### modStation -/

@[simp] theorem State.modStation_now (s : State) (n : Fin 16) (f : StationRec → StationRec) : (s.modStation n f).now = s.now := rfl
@[simp] theorem State.modStation_pins (s : State) (n : Fin 16) (f : StationRec → StationRec) : (s.modStation n f).pins = s.pins := rfl
@[simp] theorem State.modStation_plan (s : State) (n : Fin 16) (f : StationRec → StationRec) : (s.modStation n f).plan = s.plan := rfl
@[simp] theorem State.modStation_lane (s : State) (n : Fin 16) (f : StationRec → StationRec) : (s.modStation n f).lane = s.lane := rfl
@[simp] theorem State.modStation_chan (s : State) (n : Fin 16) (f : StationRec → StationRec) : (s.modStation n f).chan = s.chan := rfl
@[simp] theorem State.modStation_scan (s : State) (n : Fin 16) (f : StationRec → StationRec) : (s.modStation n f).scan = s.scan := rfl
@[simp] theorem State.modStation_reg (s : State) (n : Fin 16) (f : StationRec → StationRec) : (s.modStation n f).reg = s.reg := rfl
@[simp] theorem State.modStation_inc (s : State) (n : Fin 16) (f : StationRec → StationRec) : (s.modStation n f).inc = s.inc := rfl
@[simp] theorem State.modStation_ports (s : State) (n : Fin 16) (f : StationRec → StationRec) : (s.modStation n f).ports = s.ports := rfl
@[simp] theorem State.modStation_time (s : State) (n : Fin 16) (f : StationRec → StationRec) : (s.modStation n f).time = s.time := rfl
@[simp] theorem State.modStation_link (s : State) (n : Fin 16) (f : StationRec → StationRec) : (s.modStation n f).link = s.link := rfl
@[simp] theorem State.modStation_outbox (s : State) (n : Fin 16) (f : StationRec → StationRec) : (s.modStation n f).outbox = s.outbox := rfl
@[simp] theorem State.modStation_free (s : State) (n : Fin 16) (f : StationRec → StationRec) : (s.modStation n f).free = s.free := rfl
@[simp] theorem State.modStation_pending (s : State) (n : Fin 16) (f : StationRec → StationRec) : (s.modStation n f).pending = s.pending := rfl

/-! ### Reading a record back -/

@[simp] theorem State.channel_setChannel (s : State) (c d : Fin 32) (r : Channel) :
    (s.setChannel c r).channel d = if d = c then r else s.channel d := tget_tset _ _ _ _
@[simp] theorem State.laneRec_setLaneRec (s : State) (l m : Fin 4) (r : Lane) :
    (s.setLaneRec l r).laneRec m = if m = l then r else s.laneRec m := tget_tset _ _ _ _
@[simp] theorem State.port_setPort (s : State) (p q : Fin 16) (r : Port) :
    (s.setPort p r).port q = if q = p then r else s.port q := tget_tset _ _ _ _
@[simp] theorem State.zoneRec_setZoneRec (s : State) (z y : Fin 12) (r : ZoneRec) :
    (s.setZoneRec z r).zoneRec y = if y = z then r else s.zoneRec y := tget_tset _ _ _ _
@[simp] theorem State.input_setInput (s : State) (i j : Fin 8) (r : InputRec) :
    (s.setInput i r).input j = if j = i then r else s.input j := tget_tset _ _ _ _
@[simp] theorem State.station_setStation (s : State) (n m : Fin 16) (r : Option StationRec) :
    (s.setStation n r).station m = if m = n then r else s.station m := tget_tset _ _ _ _
@[simp] theorem State.grace_setGrace (s : State) (n m : Fin 16) (g : Grace) :
    (s.setGrace n g).grace m = if m = n then g else s.grace m := tget_tset _ _ _ _
@[simp] theorem State.station_modStation (s : State) (n m : Fin 16) (f : StationRec → StationRec) :
    (s.modStation n f).station m = if m = n then (s.station n).map f else s.station m := tget_tset _ _ _ _

/-! ### The other fields of a block under a record setter -/

@[simp] theorem State.setChannel_nextMeasure (s : State) (c : Fin 32) (r : Channel) :
    (s.setChannel c r).chan.nextMeasure = s.chan.nextMeasure := rfl
@[simp] theorem State.setChannel_nextRamp (s : State) (c : Fin 32) (r : Channel) :
    (s.setChannel c r).chan.nextRamp = s.chan.nextRamp := rfl
@[simp] theorem State.setZoneRec_nextZones (s : State) (z : Fin 12) (r : ZoneRec) :
    (s.setZoneRec z r).reg.nextZones = s.reg.nextZones := rfl
@[simp] theorem State.setStation_adm_campaign (s : State) (n : Fin 16) (r : Option StationRec) : (s.setStation n r).adm.campaign = s.adm.campaign := rfl
@[simp] theorem State.setStation_adm_params (s : State) (n : Fin 16) (r : Option StationRec) : (s.setStation n r).adm.params = s.adm.params := rfl
@[simp] theorem State.setStation_adm_queue (s : State) (n : Fin 16) (r : Option StationRec) : (s.setStation n r).adm.queue = s.adm.queue := rfl
@[simp] theorem State.setStation_adm_reserved (s : State) (n : Fin 16) (r : Option StationRec) : (s.setStation n r).adm.reserved = s.adm.reserved := rfl
@[simp] theorem State.setStation_adm_settle (s : State) (n : Fin 16) (r : Option StationRec) : (s.setStation n r).adm.settle = s.adm.settle := rfl
@[simp] theorem State.modStation_adm_campaign (s : State) (n : Fin 16) (f : StationRec → StationRec) : (s.modStation n f).adm.campaign = s.adm.campaign := rfl
@[simp] theorem State.modStation_adm_params (s : State) (n : Fin 16) (f : StationRec → StationRec) : (s.modStation n f).adm.params = s.adm.params := rfl
@[simp] theorem State.modStation_adm_queue (s : State) (n : Fin 16) (f : StationRec → StationRec) : (s.modStation n f).adm.queue = s.adm.queue := rfl
@[simp] theorem State.modStation_adm_reserved (s : State) (n : Fin 16) (f : StationRec → StationRec) : (s.modStation n f).adm.reserved = s.adm.reserved := rfl
@[simp] theorem State.modStation_adm_settle (s : State) (n : Fin 16) (f : StationRec → StationRec) : (s.modStation n f).adm.settle = s.adm.settle := rfl
@[simp] theorem State.setQueue_adm_campaign (s : State) (q : List QueueEntry) : (s.setQueue q).adm.campaign = s.adm.campaign := rfl
@[simp] theorem State.setQueue_adm_params (s : State) (q : List QueueEntry) : (s.setQueue q).adm.params = s.adm.params := rfl
@[simp] theorem State.setQueue_adm_stations (s : State) (q : List QueueEntry) : (s.setQueue q).adm.stations = s.adm.stations := rfl
@[simp] theorem State.setQueue_adm_queue (s : State) (q : List QueueEntry) : (s.setQueue q).adm.queue = q := rfl
@[simp] theorem State.setQueue_adm_reserved (s : State) (q : List QueueEntry) : (s.setQueue q).adm.reserved = s.adm.reserved := rfl
@[simp] theorem State.setQueue_adm_settle (s : State) (q : List QueueEntry) : (s.setQueue q).adm.settle = s.adm.settle := rfl

/-! ### The link's setters, read field by field -/

@[simp] theorem HostLink.setQueue_rate (k : HostLink) (v : List Request) : (k.setQueue v).rate = k.rate := rfl
@[simp] theorem HostLink.setQueue_divisor (k : HostLink) (v : List Request) : (k.setQueue v).divisor = k.divisor := rfl
@[simp] theorem HostLink.setQueue_rx (k : HostLink) (v : List Request) : (k.setQueue v).rx = k.rx := rfl
@[simp] theorem HostLink.setQueue_queue (k : HostLink) (v : List Request) : (k.setQueue v).queue = v := rfl
@[simp] theorem HostLink.setQueue_slot (k : HostLink) (v : List Request) : (k.setQueue v).slot = k.slot := rfl
@[simp] theorem HostLink.setQueue_resetPending (k : HostLink) (v : List Request) : (k.setQueue v).resetPending = k.resetPending := rfl
@[simp] theorem HostLink.setQueue_tx (k : HostLink) (v : List Request) : (k.setQueue v).tx = k.tx := rfl
@[simp] theorem HostLink.setQueue_notices (k : HostLink) (v : List Request) : (k.setQueue v).notices = k.notices := rfl
@[simp] theorem HostLink.setQueue_enable (k : HostLink) (v : List Request) : (k.setQueue v).enable = k.enable := rfl
@[simp] theorem HostLink.setQueue_lost (k : HostLink) (v : List Request) : (k.setQueue v).lost = k.lost := rfl
@[simp] theorem HostLink.setQueue_parity (k : HostLink) (v : List Request) : (k.setQueue v).parity = k.parity := rfl
@[simp] theorem HostLink.setQueue_framing (k : HostLink) (v : List Request) : (k.setQueue v).framing = k.framing := rfl
@[simp] theorem HostLink.setQueue_crc (k : HostLink) (v : List Request) : (k.setQueue v).crc = k.crc := rfl
@[simp] theorem HostLink.setQueue_length (k : HostLink) (v : List Request) : (k.setQueue v).length = k.length := rfl
@[simp] theorem HostLink.setQueue_overrun (k : HostLink) (v : List Request) : (k.setQueue v).overrun = k.overrun := rfl

@[simp] theorem HostLink.setSlot_rate (k : HostLink) (v : Option Reply) : (k.setSlot v).rate = k.rate := rfl
@[simp] theorem HostLink.setSlot_divisor (k : HostLink) (v : Option Reply) : (k.setSlot v).divisor = k.divisor := rfl
@[simp] theorem HostLink.setSlot_rx (k : HostLink) (v : Option Reply) : (k.setSlot v).rx = k.rx := rfl
@[simp] theorem HostLink.setSlot_queue (k : HostLink) (v : Option Reply) : (k.setSlot v).queue = k.queue := rfl
@[simp] theorem HostLink.setSlot_slot (k : HostLink) (v : Option Reply) : (k.setSlot v).slot = v := rfl
@[simp] theorem HostLink.setSlot_resetPending (k : HostLink) (v : Option Reply) : (k.setSlot v).resetPending = k.resetPending := rfl
@[simp] theorem HostLink.setSlot_tx (k : HostLink) (v : Option Reply) : (k.setSlot v).tx = k.tx := rfl
@[simp] theorem HostLink.setSlot_notices (k : HostLink) (v : Option Reply) : (k.setSlot v).notices = k.notices := rfl
@[simp] theorem HostLink.setSlot_enable (k : HostLink) (v : Option Reply) : (k.setSlot v).enable = k.enable := rfl
@[simp] theorem HostLink.setSlot_lost (k : HostLink) (v : Option Reply) : (k.setSlot v).lost = k.lost := rfl
@[simp] theorem HostLink.setSlot_parity (k : HostLink) (v : Option Reply) : (k.setSlot v).parity = k.parity := rfl
@[simp] theorem HostLink.setSlot_framing (k : HostLink) (v : Option Reply) : (k.setSlot v).framing = k.framing := rfl
@[simp] theorem HostLink.setSlot_crc (k : HostLink) (v : Option Reply) : (k.setSlot v).crc = k.crc := rfl
@[simp] theorem HostLink.setSlot_length (k : HostLink) (v : Option Reply) : (k.setSlot v).length = k.length := rfl
@[simp] theorem HostLink.setSlot_overrun (k : HostLink) (v : Option Reply) : (k.setSlot v).overrun = k.overrun := rfl

@[simp] theorem HostLink.setTx_rate (k : HostLink) (v : Transmitter) : (k.setTx v).rate = k.rate := rfl
@[simp] theorem HostLink.setTx_divisor (k : HostLink) (v : Transmitter) : (k.setTx v).divisor = k.divisor := rfl
@[simp] theorem HostLink.setTx_rx (k : HostLink) (v : Transmitter) : (k.setTx v).rx = k.rx := rfl
@[simp] theorem HostLink.setTx_queue (k : HostLink) (v : Transmitter) : (k.setTx v).queue = k.queue := rfl
@[simp] theorem HostLink.setTx_slot (k : HostLink) (v : Transmitter) : (k.setTx v).slot = k.slot := rfl
@[simp] theorem HostLink.setTx_resetPending (k : HostLink) (v : Transmitter) : (k.setTx v).resetPending = k.resetPending := rfl
@[simp] theorem HostLink.setTx_tx (k : HostLink) (v : Transmitter) : (k.setTx v).tx = v := rfl
@[simp] theorem HostLink.setTx_notices (k : HostLink) (v : Transmitter) : (k.setTx v).notices = k.notices := rfl
@[simp] theorem HostLink.setTx_enable (k : HostLink) (v : Transmitter) : (k.setTx v).enable = k.enable := rfl
@[simp] theorem HostLink.setTx_lost (k : HostLink) (v : Transmitter) : (k.setTx v).lost = k.lost := rfl
@[simp] theorem HostLink.setTx_parity (k : HostLink) (v : Transmitter) : (k.setTx v).parity = k.parity := rfl
@[simp] theorem HostLink.setTx_framing (k : HostLink) (v : Transmitter) : (k.setTx v).framing = k.framing := rfl
@[simp] theorem HostLink.setTx_crc (k : HostLink) (v : Transmitter) : (k.setTx v).crc = k.crc := rfl
@[simp] theorem HostLink.setTx_length (k : HostLink) (v : Transmitter) : (k.setTx v).length = k.length := rfl
@[simp] theorem HostLink.setTx_overrun (k : HostLink) (v : Transmitter) : (k.setTx v).overrun = k.overrun := rfl

@[simp] theorem HostLink.setRx_rate (k : HostLink) (v : Option HostPart) : (k.setRx v).rate = k.rate := rfl
@[simp] theorem HostLink.setRx_divisor (k : HostLink) (v : Option HostPart) : (k.setRx v).divisor = k.divisor := rfl
@[simp] theorem HostLink.setRx_rx (k : HostLink) (v : Option HostPart) : (k.setRx v).rx = v := rfl
@[simp] theorem HostLink.setRx_queue (k : HostLink) (v : Option HostPart) : (k.setRx v).queue = k.queue := rfl
@[simp] theorem HostLink.setRx_slot (k : HostLink) (v : Option HostPart) : (k.setRx v).slot = k.slot := rfl
@[simp] theorem HostLink.setRx_resetPending (k : HostLink) (v : Option HostPart) : (k.setRx v).resetPending = k.resetPending := rfl
@[simp] theorem HostLink.setRx_tx (k : HostLink) (v : Option HostPart) : (k.setRx v).tx = k.tx := rfl
@[simp] theorem HostLink.setRx_notices (k : HostLink) (v : Option HostPart) : (k.setRx v).notices = k.notices := rfl
@[simp] theorem HostLink.setRx_enable (k : HostLink) (v : Option HostPart) : (k.setRx v).enable = k.enable := rfl
@[simp] theorem HostLink.setRx_lost (k : HostLink) (v : Option HostPart) : (k.setRx v).lost = k.lost := rfl
@[simp] theorem HostLink.setRx_parity (k : HostLink) (v : Option HostPart) : (k.setRx v).parity = k.parity := rfl
@[simp] theorem HostLink.setRx_framing (k : HostLink) (v : Option HostPart) : (k.setRx v).framing = k.framing := rfl
@[simp] theorem HostLink.setRx_crc (k : HostLink) (v : Option HostPart) : (k.setRx v).crc = k.crc := rfl
@[simp] theorem HostLink.setRx_length (k : HostLink) (v : Option HostPart) : (k.setRx v).length = k.length := rfl
@[simp] theorem HostLink.setRx_overrun (k : HostLink) (v : Option HostPart) : (k.setRx v).overrun = k.overrun := rfl

end Sys2Proof.Machine
end

