-- ==== Sys2Proof/Laws/Frames.lean ====
section
/-! SUPPORT. What the channels, the ports, the admission pass and the lanes never touch: local time, the pins, the plan,
the sensor scan, the Incident Input, the Time Base, the host link, the queue of commands, the campaign's parameters, the
instants of the periods. One lemma for each operation. -/

namespace Sys2Proof.Machine

/-- What the operations on channels, ports, stations and lanes leave as it was. -/
structure Untouched (s t : State) : Prop where
  now : t.now = s.now
  pins : t.pins = s.pins
  plan : t.plan = s.plan
  scan : t.scan = s.scan
  inc : t.inc = s.inc
  time : t.time = s.time
  link : t.link = s.link
  pending : t.pending = s.pending
  params : t.adm.params = s.adm.params
  nextMeasure : t.chan.nextMeasure = s.chan.nextMeasure
  nextRamp : t.chan.nextRamp = s.chan.nextRamp
  nextZones : t.reg.nextZones = s.reg.nextZones
  ready : t.lane.ready = s.lane.ready

theorem Untouched.refl (s : State) : Untouched s s := ⟨rfl, rfl, rfl, rfl, rfl, rfl, rfl, rfl, rfl, rfl, rfl, rfl, rfl⟩

theorem Untouched.trans {s t u : State} (h : Untouched s t) (k : Untouched t u) : Untouched s u :=
  ⟨k.now.trans h.now, k.pins.trans h.pins, k.plan.trans h.plan, k.scan.trans h.scan, k.inc.trans h.inc,
    k.time.trans h.time, k.link.trans h.link, k.pending.trans h.pending, k.params.trans h.params,
    k.nextMeasure.trans h.nextMeasure, k.nextRamp.trans h.nextRamp, k.nextZones.trans h.nextZones,
    k.ready.trans h.ready⟩

/-- A fold of operations that touch nothing touches nothing. -/
theorem Untouched.foldl {α : Type} (f : State → α → State) (hf : ∀ s a, Untouched s (f s a)) (l : List α) (s : State) :
    Untouched s (l.foldl f s) := by
  induction l generalizing s with
  | nil => exact .refl s
  | cons a l ih => exact (hf s a).trans (ih _)

/-! ### The setters -/

theorem untouched_setChannel (c : Fin 32) (r : Channel) (s : State) : Untouched s (s.setChannel c r) :=
  ⟨rfl, rfl, rfl, rfl, rfl, rfl, rfl, rfl, rfl, rfl, rfl, rfl, rfl⟩
theorem untouched_setZoneRec (z : Fin 12) (r : ZoneRec) (s : State) : Untouched s (s.setZoneRec z r) :=
  ⟨rfl, rfl, rfl, rfl, rfl, rfl, rfl, rfl, rfl, rfl, rfl, rfl, rfl⟩
theorem untouched_setLaneRec (l : Fin 4) (r : Lane) (s : State) : Untouched s (s.setLaneRec l r) :=
  ⟨rfl, rfl, rfl, rfl, rfl, rfl, rfl, rfl, rfl, rfl, rfl, rfl, rfl⟩
theorem untouched_setPort (n : Fin 16) (r : Port) (s : State) : Untouched s (s.setPort n r) :=
  ⟨rfl, rfl, rfl, rfl, rfl, rfl, rfl, rfl, rfl, rfl, rfl, rfl, rfl⟩
theorem untouched_setGrace (n : Fin 16) (g : Grace) (s : State) : Untouched s (s.setGrace n g) :=
  ⟨rfl, rfl, rfl, rfl, rfl, rfl, rfl, rfl, rfl, rfl, rfl, rfl, rfl⟩
theorem untouched_setRestartLine (n : Fin 16) (b : Bool) (s : State) : Untouched s (s.setRestartLine n b) :=
  ⟨rfl, rfl, rfl, rfl, rfl, rfl, rfl, rfl, rfl, rfl, rfl, rfl, rfl⟩
theorem untouched_setQueue (q : List QueueEntry) (s : State) : Untouched s (s.setQueue q) :=
  ⟨rfl, rfl, rfl, rfl, rfl, rfl, rfl, rfl, rfl, rfl, rfl, rfl, rfl⟩
theorem untouched_setStation (n : Fin 16) (r : Option StationRec) (s : State) : Untouched s (s.setStation n r) :=
  ⟨rfl, rfl, rfl, rfl, rfl, rfl, rfl, rfl, rfl, rfl, rfl, rfl, rfl⟩
theorem untouched_modStation (n : Fin 16) (f : StationRec → StationRec) (s : State) : Untouched s (s.modStation n f) :=
  ⟨rfl, rfl, rfl, rfl, rfl, rfl, rfl, rfl, rfl, rfl, rfl, rfl, rfl⟩
theorem untouched_emit (b : Block) (n : Notice) (s : State) : Untouched s (s.emit b n) :=
  ⟨rfl, rfl, rfl, rfl, rfl, rfl, rfl, rfl, rfl, rfl, rfl, rfl, rfl⟩
theorem untouched_reserveBound (n : Fin 16) (v : Bool) (s : State) : Untouched s (reserveBound n v s) :=
  ⟨rfl, rfl, rfl, rfl, rfl, rfl, rfl, rfl, rfl, rfl, rfl, rfl, rfl⟩
theorem untouched_setSettlePoints (n : Fin 16) (s : State) : Untouched s (setSettlePoints n s) :=
  ⟨rfl, rfl, rfl, rfl, rfl, rfl, rfl, rfl, rfl, rfl, rfl, rfl, rfl⟩

/-! ### Notices -/

theorem untouched_noteStation (b : Block) (n : Fin 16) (s : State) : Untouched s (noteStation b n s) := by
  unfold noteStation; split
  · exact untouched_emit _ _ _
  · exact .refl s
theorem untouched_changeStation (n : Fin 16) (f : StationRec → StationRec) (s : State) :
    Untouched s (changeStation n f s) :=
  (untouched_modStation n f s).trans (untouched_noteStation _ _ _)
theorem untouched_enterStage (l : Fin 4) (n : Fin 16) (st : Stage) (t : Option Nat) (s : State) :
    Untouched s (enterStage l n st t s) :=
  (untouched_setLaneRec l _ s).trans (untouched_noteStation _ _ _)

/-! ### The Regulator and the channel orders -/

theorem untouched_setBlind (z : Fin 12) (bad : List (Fin 8)) (s : State) : Untouched s (setBlind z bad s) := by
  unfold setBlind; simp only; split
  · exact (untouched_setZoneRec _ _ _).trans (untouched_emit _ _ _)
  · exact untouched_setZoneRec _ _ _
theorem untouched_formBlind (z : Fin 12) (s : State) : Untouched s (formBlind z s) := by
  unfold formBlind; split
  · split
    · exact .refl s
    · exact untouched_setBlind _ _ _
  · exact .refl s
theorem untouched_createTarget (z : Fin 12) (s : State) : Untouched s (createTarget z s) := by
  unfold createTarget; split
  · exact (untouched_formBlind z s).trans (untouched_setZoneRec _ _ _)
  · exact .refl s
theorem untouched_countTrackEntry (z : Fin 12) (s : State) : Untouched s (countTrackEntry z s) := by
  unfold countTrackEntry; simp only; split
  · exact (untouched_createTarget z s).trans (untouched_setZoneRec _ _ _)
  · exact untouched_setZoneRec _ _ _
theorem untouched_countTrackExit (z : Fin 12) (s : State) : Untouched s (countTrackExit z s) := by
  unfold countTrackExit; simp only; split <;> exact untouched_setZoneRec _ _ _
theorem untouched_leaveTrack (c : Fin 32) (s : State) : Untouched s (leaveTrack c s) := by
  unfold leaveTrack; split
  · split
    · exact untouched_countTrackExit _ _
    · exact .refl s
  · exact .refl s
theorem untouched_followOrder (c : Fin 32) (s : State) : Untouched s (followOrder c s) := by
  unfold followOrder; split
  · exact .refl s
  · exact (untouched_leaveTrack c s).trans (untouched_setChannel _ _ _)
theorem untouched_incidentOrder (c : Fin 32) (s : State) : Untouched s (incidentOrder c s) := by
  unfold incidentOrder; split
  · split
    · exact (untouched_leaveTrack c s).trans (untouched_setChannel _ _ _)
    · exact .refl s
  · exact .refl s
theorem untouched_captureOrder (c : Fin 32) (s : State) : Untouched s (captureOrder c s) := by
  unfold captureOrder; simp only; split
  · exact untouched_setChannel _ _ _
  · exact .refl s
theorem untouched_holdInPlaceOrder (c : Fin 32) (s : State) : Untouched s (holdInPlaceOrder c s) := by
  unfold holdInPlaceOrder; split
  · exact (untouched_leaveTrack c s).trans (untouched_setChannel _ _ _)
  · exact .refl s
theorem untouched_holdKeepOrder (c : Fin 32) (s : State) : Untouched s (holdKeepOrder c s) := by
  unfold holdKeepOrder; simp only; split
  · exact untouched_setChannel _ _ _
  · exact .refl s
theorem untouched_trackOrder (c : Fin 32) (s : State) : Untouched s (trackOrder c s) := by
  unfold trackOrder; split
  · split
    · exact (untouched_countTrackEntry _ s).trans (untouched_setChannel _ _ _)
    · exact .refl s
  · exact .refl s
theorem untouched_takeOver (c : Fin 32) (s : State) : Untouched s (takeOver c s) := by
  unfold takeOver; split
  · exact untouched_trackOrder _ _
  · exact .refl s
theorem untouched_takeOverStation (n : Fin 16) (s : State) : Untouched s (takeOverStation n s) :=
  .foldl _ (fun s c => untouched_takeOver c s) _ s
theorem untouched_takeOverIfExpired (n : Fin 16) (s : State) : Untouched s (takeOverIfExpired n s) := by
  unfold takeOverIfExpired; split
  · exact untouched_takeOverStation n s
  · exact .refl s

/-! ### The ports -/

theorem untouched_openDialogue (n : Fin 16) (k : DialogueKind) (body : List Byte) (s : State) :
    Untouched s (openDialogue n k body s).1 := by
  unfold openDialogue; simp only; split
  · exact untouched_setPort _ _ _
  · split <;> exact untouched_setPort _ _ _
theorem untouched_abandonDialogue (n : Fin 16) (s : State) : Untouched s (abandonDialogue n s) :=
  untouched_setPort _ _ _
theorem untouched_setFree (v : Nat) (s : State) : Untouched s (s.setFree v) :=
  ⟨rfl, rfl, rfl, rfl, rfl, rfl, rfl, rfl, rfl, rfl, rfl, rfl, rfl⟩
theorem untouched_endByReply (n : Fin 16) (s : State) : Untouched s (endByReply n s) := by
  unfold endByReply; simp only; split
  · exact untouched_setPort _ _ _
  · exact (untouched_setPort _ _ s).trans (untouched_setFree _ _)
theorem untouched_endByTimeout (n : Fin 16) (k : DialogueKind) (s : State) : Untouched s (endByTimeout n k s) :=
  untouched_setPort _ _ _

/-! ### The admission pass -/

theorem untouched_restartEntry (l : Fin 4) (n : Fin 16) (s : State) : Untouched s (restartEntry l n s) :=
  ((((untouched_modStation n _ s).trans (untouched_setLaneRec l _ _)).trans (untouched_setRestartLine n true _)).trans
    (untouched_enterStage l n .restart _ _)).trans (untouched_takeOverIfExpired n _)
theorem untouched_rollbackCore (l : Fin 4) (n : Fin 16) (r : Reason) (s : State) : Untouched s (rollbackCore l n r s) :=
  ((untouched_setLaneRec l _ s).trans (untouched_enterStage l n _ _ _)).trans (untouched_reserveBound n false _)
theorem untouched_startLane (l : Fin 4) (n : Fin 16) (pre : Bool) (s : State) : Untouched s (startLane l n pre s).1 := by
  unfold startLane; simp only; split
  · exact (untouched_setLaneRec l _ s).trans (untouched_restartEntry l n _)
  · split
    · exact (((untouched_setLaneRec l _ s).trans (untouched_enterStage l n _ _ _)).trans
        (untouched_rollbackCore l n _ _)).trans (untouched_openDialogue n _ _ _)
    · exact ((untouched_setLaneRec l _ s).trans (untouched_enterStage l n _ _ _)).trans (untouched_openDialogue n _ _ _)
theorem untouched_admit (l : Fin 4) (e : QueueEntry) (s : State) : Untouched s (admitEntry l e s).1 := by
  unfold admitEntry; simp only
  refine Untouched.trans ?_ (untouched_startLane l _ _ _)
  refine Untouched.trans ?_ (untouched_modStation _ _ _)
  split
  · exact untouched_setQueue _ s
  · exact (untouched_setQueue _ s).trans (untouched_reserveBound _ _ _)
theorem untouched_countPassOver (f : List (Fin 16)) (s : State) : Untouched s (countPassOver f s) :=
  untouched_setQueue _ s
theorem untouched_passGo (q above failed : List (Fin 16)) (k : Nat) (s : State) :
    Untouched s (passGo q above failed k s).1 := by
  induction q generalizing above failed k s with
  | nil => exact .refl s
  | cons n rest ih =>
    unfold passGo
    split
    · exact .refl s
    · exact ih _ _ _ _
    · split
      · exact (untouched_setQueue _ s).trans (ih _ _ _ _)
      · exact ((untouched_admit _ _ s).trans (untouched_countPassOver _ _)).trans (ih _ _ _ _)
theorem untouched_runPass (s : State) : Untouched s (runPass s).1 := by
  unfold runPass; split
  · exact untouched_passGo _ _ _ _ s
  · exact .refl s
theorem untouched_runPasses (f k : Nat) (s : State) : Untouched s (runPasses f k s) := by
  induction f generalizing k s with
  | zero => exact .refl s
  | succ f ih =>
    cases k with
    | zero => exact .refl s
    | succ k => exact (untouched_runPass s).trans (ih _ _)
/-- R37: a pass touches nothing outside the stations, the queue, the reservations, the lanes, the channels and the
ports. -/
theorem untouched_callPass (s : State) : Untouched s (callPass s) := untouched_runPasses 5 1 s

theorem untouched_endTest (s : State) : Untouched s (endTest s) := by
  unfold endTest; split
  · exact ⟨rfl, rfl, rfl, rfl, rfl, rfl, rfl, rfl, rfl, rfl, rfl, rfl, rfl⟩
  · exact .refl s

/-- R38: a pass called while its gates are closed changes nothing. -/
theorem callPass_gated (s : State) (h : passGate s = false) : callPass s = s := by
  have h1 : runPass s = (s, 0) := by simp [runPass, h]
  show runPasses 5 1 s = s
  simp [runPasses, h1]

/-! ### The lanes -/

theorem untouched_requeue (n : Fin 16) (o : LaneOutcome) (s : State) : Untouched s (requeue n o s) := by
  unfold requeue; split
  · split
    · exact untouched_setQueue _ s
    · exact .refl s
  · exact .refl s
theorem untouched_reportOutcome (l : Fin 4) (n : Fin 16) (o : LaneOutcome) (s : State) :
    Untouched s (reportOutcome l n o s) :=
  ((((untouched_setLaneRec l _ s).trans (untouched_changeStation n _ _)).trans (untouched_requeue n o _)).trans
    (untouched_endTest _)).trans (untouched_callPass _)
theorem untouched_strandLane (l : Fin 4) (n : Fin 16) (r : Reason) (s : State) : Untouched s (strandLane l n r s) :=
  (untouched_takeOverIfExpired n s).trans (untouched_reportOutcome l n _ _)
theorem untouched_rollbackEnd (l : Fin 4) (n : Fin 16) (s : State) : Untouched s (rollbackEnd l n s) :=
  untouched_reportOutcome l n _ s
theorem untouched_rollbackEntry (l : Fin 4) (n : Fin 16) (r : Reason) (s : State) :
    Untouched s (rollbackEntry l n r s) := by
  unfold rollbackEntry; simp only
  have h := ((untouched_rollbackCore l n r s).trans (untouched_callPass _)).trans (untouched_openDialogue n .thaw [] _)
  split
  · exact h.trans (untouched_rollbackEnd l n _)
  · exact h
theorem untouched_toAlign (l : Fin 4) (n : Fin 16) (s : State) : Untouched s (toAlign l n s) := by
  unfold toAlign; split
  · exact .refl s
  · exact untouched_enterStage l n _ _ s
theorem untouched_sendAlign (n : Fin 16) (s : State) : Untouched s (sendAlign n s).1 := untouched_openDialogue n _ _ s
theorem untouched_alignAttempt (f : Nat) (l : Fin 4) (n : Fin 16) (s : State) : Untouched s (alignAttempt f l n s) := by
  induction f generalizing s with
  | zero => exact untouched_strandLane l n _ s
  | succ f ih =>
    refine (untouched_modStation n countAlign s).trans ?_
    unfold alignAttempt
    simp only
    split
    · refine ((untouched_toAlign l n _).trans (untouched_sendAlign n _)).trans ?_
      split
      · exact ih _
      · exact .refl _
    · exact untouched_strandLane l n _ _
theorem untouched_alignEntry (l : Fin 4) (n : Fin 16) (s : State) : Untouched s (alignEntry l n s) := by
  unfold alignEntry; simp only
  refine ((untouched_enterStage l n .align none s).trans (untouched_sendAlign n _)).trans ?_
  split
  · exact untouched_alignAttempt _ l n _
  · exact .refl _
theorem untouched_settledTest (l : Fin 4) (n : Fin 16) (s : State) : Untouched s (settledTest l n s) := by
  unfold settledTest; split
  · exact untouched_alignEntry l n s
  · exact .refl s
theorem untouched_settleLanes (s : State) : Untouched s (settleLanes s) := by
  refine .foldl _ (fun s l => ?_) _ s
  split
  · exact untouched_settledTest _ _ _
  · exact .refl s
theorem untouched_prepareEntry (l : Fin 4) (n : Fin 16) (s : State) : Untouched s (prepareEntry l n s) :=
  ((untouched_enterStage l n .prepare none s).trans
    (.foldl _ (fun s c => untouched_holdInPlaceOrder c s) _ _)).trans (untouched_settledTest l n _)
theorem untouched_restoreFailed (l : Fin 4) (n : Fin 16) (s : State) : Untouched s (restoreFailed l n s) := by
  unfold restoreFailed; split
  · exact untouched_restartEntry l n s
  · exact untouched_strandLane l n _ s
theorem untouched_openRestore (l : Fin 4) (n : Fin 16) (s : State) : Untouched s (openRestore l n s) := by
  unfold openRestore; simp only; split
  · exact (untouched_openDialogue n _ _ s).trans (untouched_restoreFailed l n _)
  · exact untouched_openDialogue n _ _ s
theorem untouched_restoreEntry (l : Fin 4) (n : Fin 16) (s : State) : Untouched s (restoreEntry l n s) :=
  ((untouched_enterStage l n .restore none s).trans (untouched_takeOverIfExpired n _)).trans (untouched_openRestore l n _)
theorem untouched_bootEntry (l : Fin 4) (n : Fin 16) (s : State) : Untouched s (bootEntry l n s) := by
  unfold bootEntry; simp only; split
  · exact ((untouched_enterStage l n _ _ s).trans (untouched_takeOverIfExpired n _)).trans (untouched_restoreEntry l n _)
  · exact (untouched_enterStage l n _ _ s).trans (untouched_takeOverIfExpired n _)
theorem untouched_pulseEnd (l : Fin 4) (n : Fin 16) (s : State) : Untouched s (pulseEnd l n s) :=
  (untouched_setRestartLine n false s).trans (untouched_bootEntry l n _)
theorem untouched_bootFailed (l : Fin 4) (n : Fin 16) (s : State) : Untouched s (bootFailed l n s) := by
  unfold bootFailed; split
  · exact untouched_restartEntry l n s
  · exact untouched_strandLane l n _ s
theorem untouched_rebooted (l : Fin 4) (n : Fin 16) (s : State) : Untouched s (rebooted l n s) := by
  unfold rebooted; simp only; split
  · exact (((untouched_abandonDialogue n s).trans (untouched_modStation n _ _)).trans
      (untouched_setLaneRec l _ _)).trans ((untouched_setLaneRec l _ _).trans (untouched_bootEntry l n _))
  · exact (((untouched_abandonDialogue n s).trans (untouched_modStation n _ _)).trans
      (untouched_setLaneRec l _ _)).trans (untouched_strandLane l n _ _)
theorem untouched_matchEntry (l : Fin 4) (n : Fin 16) (s : State) : Untouched s (matchEntry l n s) :=
  (untouched_setLaneRec l _ s).trans (untouched_enterStage l n _ _ _)
theorem untouched_releaseFailed (f : Nat) (l : Fin 4) (n : Fin 16) (s : State) :
    Untouched s (releaseFailed f l n s) := by
  induction f generalizing s with
  | zero => exact untouched_reportOutcome l n _ s
  | succ f ih =>
    unfold releaseFailed; split
    · simp only; split
      · exact ((untouched_setLaneRec l _ s).trans (untouched_openDialogue n _ _ _)).trans (ih _)
      · exact (untouched_setLaneRec l _ s).trans (untouched_openDialogue n _ _ _)
    · exact untouched_reportOutcome l n _ s
theorem untouched_releaseEntry (l : Fin 4) (n : Fin 16) (s : State) : Untouched s (releaseEntry l n s) := by
  have h : ∀ u, Untouched u ((callPass u)) := untouched_callPass
  unfold releaseEntry; simp only
  split
  · refine Untouched.trans (Untouched.trans (Untouched.trans ?_ (untouched_openDialogue n _ _ _)) (h _))
      (untouched_releaseFailed _ l n _)
    exact (((((untouched_enterStage l n _ _ s).trans (.foldl _ (fun s c => untouched_followOrder c s) _ _)).trans
      (untouched_reserveBound n _ _)).trans (untouched_setSettlePoints n _)).trans (untouched_setGrace n _ _)).trans
      (untouched_setLaneRec l _ _)
  · refine Untouched.trans (Untouched.trans ?_ (untouched_openDialogue n _ _ _)) (h _)
    exact (((((untouched_enterStage l n _ _ s).trans (.foldl _ (fun s c => untouched_followOrder c s) _ _)).trans
      (untouched_reserveBound n _ _)).trans (untouched_setSettlePoints n _)).trans (untouched_setGrace n _ _)).trans
      (untouched_setLaneRec l _ _)
theorem untouched_matchTest (l : Fin 4) (n : Fin 16) (s : State) : Untouched s (matchTest l n s) := by
  unfold matchTest; split
  · simp only; split
    · split
      · exact (untouched_setLaneRec l _ s).trans (untouched_releaseEntry l n _)
      · exact untouched_setLaneRec l _ s
    · exact untouched_setLaneRec l _ s
  · exact .refl s
theorem untouched_matchLanes (s : State) : Untouched s (matchLanes s) := by
  refine .foldl _ (fun s l => ?_) _ s
  split
  · exact untouched_matchTest _ _ _
  · exact .refl s
theorem untouched_alignExpired (l : Fin 4) (n : Fin 16) (s : State) : Untouched s (alignExpired l n s) :=
  (untouched_setLaneRec l _ s).trans (untouched_alignAttempt 3 l n _)
theorem untouched_capturePass (l : Fin 4) (n : Fin 16) (f : Frozen) (s : State) : Untouched s (capturePass l n f s) := by
  have h := Untouched.foldl _ (fun s c => untouched_captureOrder c s) (s.bound n) s
  unfold capturePass; simp only; split
  · exact (((h.trans (.foldl _ (fun s c => untouched_incidentOrder c s) _ _)).trans (untouched_modStation n _ _)).trans
      (untouched_setGrace n _ _)).trans (untouched_restartEntry l n _)
  · exact ((h.trans (untouched_modStation n _ _)).trans (untouched_setGrace n _ _)).trans (untouched_restartEntry l n _)
theorem untouched_frozenTaken (l : Fin 4) (n : Fin 16) (b : List Byte) (s : State) :
    Untouched s (frozenTaken l n b s) := by
  unfold frozenTaken; split
  · split
    · split
      · exact untouched_capturePass l n _ s
      · exact untouched_rollbackEntry l n _ s
    · exact untouched_rollbackEntry l n _ s
  · exact untouched_rollbackEntry l n _ s
theorem untouched_laneHandles (l : Fin 4) (n : Fin 16) (d : DialogueKind) (e : DialogueEnd) (s : State) :
    Untouched s (laneHandles l n d e s) := by
  cases d <;> simp only [laneHandles] <;> (try split)
  · exact untouched_frozenTaken l n _ s
  · exact untouched_rollbackEntry l n _ s
  · exact untouched_rollbackEntry l n _ s
  · exact untouched_rollbackEntry l n _ s
  · exact untouched_rollbackEnd l n s
  · exact untouched_prepareEntry l n s
  · split
    · exact (untouched_setLaneRec l _ s).trans (untouched_openRestore l n _)
    · exact untouched_strandLane l n _ s
  · exact untouched_restoreFailed l n s
  · exact untouched_matchEntry l n s
  · exact untouched_alignAttempt 3 l n s
  · exact untouched_reportOutcome l n _ s
  · exact untouched_releaseFailed 3 l n s
/-- R146: whatever a lane makes of the end of its dialogue, the blocks of `Untouched` stay as they were. -/
theorem untouched_handEnd (n : Fin 16) (d : DialogueKind) (e : DialogueEnd) (s : State) :
    Untouched s (handEnd n d e s) := by
  unfold handEnd; split
  · exact untouched_laneHandles _ n d e s
  · exact .refl s

/-! ### The incident -/

theorem untouched_leaveIncident (s : State) (c : Fin 32) : Untouched s (leaveIncident s c) := by
  unfold leaveIncident; split
  · split
    · split
      · exact untouched_trackOrder c s
      · exact untouched_holdKeepOrder c s
    · exact .refl s
  · exact untouched_holdKeepOrder c s
theorem untouched_channelsActive (s : State) : Untouched s (channelsActive s) :=
  (Untouched.foldl _ (fun s c => untouched_incidentOrder c s) _ s).trans (untouched_settleLanes _)
theorem untouched_channelsInactive (s : State) : Untouched s (channelsInactive s) :=
  (Untouched.foldl _ (fun s c => untouched_leaveIncident s c) _ s).trans (untouched_settleLanes _)
theorem untouched_laneActive (s : State) (l : Fin 4) : Untouched s (laneActive s l) := by
  unfold laneActive; split
  · split
    · exact (untouched_abandonDialogue _ s).trans (untouched_rollbackEntry l _ _ _)
    · exact ((untouched_abandonDialogue _ s).trans (untouched_setLaneRec l _ _)).trans
        ((Untouched.foldl _ (fun s c => untouched_incidentOrder c s) _ _).trans (untouched_prepareEntry l _ _))
    · exact ((untouched_abandonDialogue _ s).trans (untouched_setLaneRec l _ _)).trans
        ((Untouched.foldl _ (fun s c => untouched_incidentOrder c s) _ _).trans (untouched_prepareEntry l _ _))
    · exact .refl s
  · exact .refl s
theorem untouched_lanesActive (s : State) : Untouched s (lanesActive s) :=
  .foldl _ (fun s l => untouched_laneActive s l) _ s

/-! ### Frames on a field port -/

theorem untouched_badFrame (n : Fin 16) (s : State) : Untouched s (badFrame n s) := by
  unfold badFrame; simp only; split
  · have h : Untouched s ((s.setPort n (faultPort (countBad (s.port n)))).emit .ports
        (portNotice n (faultPort (countBad (s.port n))))) := (untouched_setPort n _ s).trans (untouched_emit _ _ _)
    split
    · exact h.trans (untouched_handEnd n _ _ _)
    · exact h
  · exact untouched_setPort n _ s
theorem untouched_matchFrame (n : Fin 16) (f : FieldFrame) (s : State) : Untouched s (matchFrame n f s) := by
  unfold matchFrame; simp only; split
  · split
    · exact (untouched_endByReply n s).trans (untouched_handEnd n _ _ _)
    · exact untouched_setPort n _ s
  · exact untouched_setPort n _ s
theorem untouched_frameTaken (n : Fin 16) (f : FieldFrame) (s : State) : Untouched s (frameTaken n f s) := by
  unfold frameTaken; split
  · exact .refl s
  · simp only
    split
    · exact ((untouched_setPort n _ s).trans (untouched_setPort n _ _)).trans (untouched_matchFrame n f _)
    · exact (untouched_setPort n _ s).trans (untouched_badFrame n _)
theorem untouched_frameAbandoned (n : Fin 16) (s : State) : Untouched s (frameAbandoned n s) := by
  unfold frameAbandoned; split
  · exact .refl s
  · exact (untouched_setPort n _ s).trans (untouched_badFrame n _)
theorem untouched_wholeFrame (n : Fin 16) (f : FieldFrame) (s : State) : Untouched s (wholeFrame n f s) := by
  unfold wholeFrame; split
  · exact .refl s
  · exact (untouched_setPort n _ s).trans (untouched_frameTaken n f _)

/-- R141: everything the end of a gap can do: nothing in HUNT or within 20 ms, and otherwise the frame is abandoned. -/
theorem endGap_cases (n : Fin 16) (s : State) :
    endGap n s = s ∨ ∃ p, (s.port n).rx = some p ∧
      gapExceeded s.now (charTicks ((s.port n).divisor.getD 0) 1) p.gapFrom = true ∧ endGap n s = frameAbandoned n s := by
  unfold endGap; split
  · rename_i p hp
    split
    · exact .inr ⟨p, hp, ‹_›, rfl⟩
    · exact .inl rfl
  · exact .inl rfl
theorem untouched_endGap (n : Fin 16) (s : State) : Untouched s (endGap n s) := by
  obtain h | ⟨_, _, _, h⟩ := endGap_cases n s <;> rw [h]
  · exact .refl s
  · exact untouched_frameAbandoned n s
theorem untouched_characterReceived (n : Fin 16) (c : RxChar) (s : State) : Untouched s (characterReceived n c s) := by
  unfold characterReceived; split
  · exact .refl s
  · have h := (untouched_endGap n s).trans (untouched_setPort n (countErrors c ((endGap n s).port n)) _)
    simp only
    split
    · exact h.trans (untouched_setPort n _ _)
    · exact h.trans (untouched_setPort n _ _)
    · exact h.trans (untouched_frameTaken n _ _)
    · exact h.trans (untouched_frameAbandoned n _)

end Sys2Proof.Machine
end

