-- ==== Sys2Proof/Laws/Link.lean ====
section
/-! SUPPORT. The end of an event and the dispatch: what `finish` and `goodFrame` leave as it was, once for all commands. -/

namespace Sys2Proof.Machine

@[simp] theorem takeNotice_core (k : HostLink) (n : Notice) : (takeNotice k n).core = k.core := by
  unfold takeNotice; split
  · rfl
  · split <;> rfl

@[simp] theorem takeNotice_tx (k : HostLink) (n : Notice) : (takeNotice k n).tx = k.tx := by
  unfold takeNotice; split
  · rfl
  · split <;> rfl

@[simp] theorem foldl_takeNotice_core (l : List Notice) (k : HostLink) : (l.foldl takeNotice k).core = k.core := by
  induction l generalizing k with
  | nil => rfl
  | cons n l ih => simp [ih]

@[simp] theorem foldl_takeNotice_tx (l : List Notice) (k : HostLink) : (l.foldl takeNotice k).tx = k.tx := by
  induction l generalizing k with
  | nil => rfl
  | cons n l ih => simp [ih]

@[simp] theorem choose_core (k : HostLink) : (choose k).core = k.core := by
  unfold choose; split <;> rfl

/-- R178: a notice the Interface takes leaves at most 32 in the queue. -/
theorem takeNotice_length (k : HostLink) (n : Notice) (h : k.notices.length ≤ 32) :
    (takeNotice k n).notices.length ≤ 32 := by
  unfold takeNotice; split
  · exact h
  · split
    · simp; omega
    · exact h

theorem foldl_takeNotice_length (l : List Notice) (k : HostLink) (h : k.notices.length ≤ 32) :
    (l.foldl takeNotice k).notices.length ≤ 32 := by
  induction l generalizing k with
  | nil => exact h
  | cons n l ih => exact ih _ (takeNotice_length k n h)

theorem choose_length (k : HostLink) (h : k.notices.length ≤ 32) : (choose k).notices.length ≤ 32 := by
  unfold choose; split
  · exact h
  · rename_i heq; simp only [heq, List.length_cons] at h; simp; omega
  · exact h

@[simp] theorem flush_now (s : State) : (flush s).now = s.now := rfl
@[simp] theorem flush_pins (s : State) : (flush s).pins = s.pins := rfl
@[simp] theorem flush_plan (s : State) : (flush s).plan = s.plan := rfl
@[simp] theorem flush_adm (s : State) : (flush s).adm = s.adm := rfl
@[simp] theorem flush_lane (s : State) : (flush s).lane = s.lane := rfl
@[simp] theorem flush_chan (s : State) : (flush s).chan = s.chan := rfl
@[simp] theorem flush_scan (s : State) : (flush s).scan = s.scan := rfl
@[simp] theorem flush_reg (s : State) : (flush s).reg = s.reg := rfl
@[simp] theorem flush_inc (s : State) : (flush s).inc = s.inc := rfl
@[simp] theorem flush_ports (s : State) : (flush s).ports = s.ports := rfl
@[simp] theorem flush_time (s : State) : (flush s).time = s.time := rfl
@[simp] theorem flush_pending (s : State) : (flush s).pending = s.pending := rfl
@[simp] theorem flush_outbox (s : State) : (flush s).outbox = [] := rfl

@[simp] theorem finish_now (s : State) : (finish s).now = s.now := rfl
@[simp] theorem finish_pins (s : State) : (finish s).pins = s.pins := rfl
@[simp] theorem finish_plan (s : State) : (finish s).plan = s.plan := rfl
@[simp] theorem finish_adm (s : State) : (finish s).adm = s.adm := rfl
@[simp] theorem finish_lane (s : State) : (finish s).lane = s.lane := rfl
@[simp] theorem finish_chan (s : State) : (finish s).chan = s.chan := rfl
@[simp] theorem finish_scan (s : State) : (finish s).scan = s.scan := rfl
@[simp] theorem finish_reg (s : State) : (finish s).reg = s.reg := rfl
@[simp] theorem finish_inc (s : State) : (finish s).inc = s.inc := rfl
@[simp] theorem finish_ports (s : State) : (finish s).ports = s.ports := rfl
@[simp] theorem finish_time (s : State) : (finish s).time = s.time := rfl
@[simp] theorem finish_pending (s : State) : (finish s).pending = s.pending := rfl
@[simp] theorem finish_outbox (s : State) : (finish s).outbox = [] := rfl
@[simp] theorem finish_free (s : State) : (finish s).free = (flush s).free := rfl

@[simp] theorem finish_link_core (s : State) : (finish s).link.core = s.link.core := by
  simp [finish, flush]

@[simp] theorem finish_link_rate (s : State) : (finish s).link.rate = s.link.rate := by
  have h := congrArg HostLink.rate (finish_link_core s)
  exact h
@[simp] theorem finish_link_divisor (s : State) : (finish s).link.divisor = s.link.divisor := by
  have h := congrArg HostLink.divisor (finish_link_core s)
  exact h
@[simp] theorem finish_link_rx (s : State) : (finish s).link.rx = s.link.rx := by
  have h := congrArg HostLink.rx (finish_link_core s)
  exact h
@[simp] theorem finish_link_queue (s : State) : (finish s).link.queue = s.link.queue := by
  have h := congrArg HostLink.queue (finish_link_core s)
  exact h
@[simp] theorem finish_link_slot (s : State) : (finish s).link.slot = s.link.slot := by
  have h := congrArg HostLink.slot (finish_link_core s)
  exact h
@[simp] theorem finish_link_resetPending (s : State) : (finish s).link.resetPending = s.link.resetPending := by
  have h := congrArg HostLink.resetPending (finish_link_core s)
  exact h
@[simp] theorem finish_link_enable (s : State) : (finish s).link.enable = s.link.enable := by
  have h := congrArg HostLink.enable (finish_link_core s)
  exact h
@[simp] theorem finish_link_parity (s : State) : (finish s).link.parity = s.link.parity := by
  have h := congrArg HostLink.parity (finish_link_core s)
  exact h
@[simp] theorem finish_link_framing (s : State) : (finish s).link.framing = s.link.framing := by
  have h := congrArg HostLink.framing (finish_link_core s)
  exact h
@[simp] theorem finish_link_crc (s : State) : (finish s).link.crc = s.link.crc := by
  have h := congrArg HostLink.crc (finish_link_core s)
  exact h
@[simp] theorem finish_link_length (s : State) : (finish s).link.length = s.link.length := by
  have h := congrArg HostLink.length (finish_link_core s)
  exact h
@[simp] theorem finish_link_overrun (s : State) : (finish s).link.overrun = s.link.overrun := by
  have h := congrArg HostLink.overrun (finish_link_core s)
  exact h

/-- R178: the end of an event leaves at most 32 notices in the queue. -/
theorem finish_notices_length (s : State) (h : s.link.notices.length ≤ 32) : (finish s).link.notices.length ≤ 32 :=
  choose_length _ (foldl_takeNotice_length _ _ h)

/-- An event that emits no notice queues none. -/
@[simp] theorem flush_quiet (s : State) (h : s.outbox = []) : flush s = s := by
  cases s; subst h; rfl

theorem choose_settled (k : HostLink) (h : k.settled) : choose k = k := by
  unfold choose
  split
  · rename_i h1 h2; rw [(h h1).1] at h2; cases h2
  · rename_i h1 _ h2; rw [(h h1).2] at h2; cases h2
  · rfl

/-- R179: at the end of every event the transmitter sends, or nothing waits. -/
theorem finish_settled (s : State) : (finish s).link.settled := by
  show (choose _).settled
  generalize (flush s).link = k
  intro h
  unfold choose at h ⊢
  split <;> rename_i h1 h2
  · simp_all
  · simp_all
  · rename_i h3
    cases hs : k.slot <;> cases hn : k.notices <;> simp_all

/-- An event that emits nothing while the transmitter has nothing to choose ends as it stands. -/
theorem finish_quiet (s : State) (ho : s.outbox = []) (hk : s.link.settled) : finish s = s := by
  show (flush s).setLink (choose (flush s).link) = s
  rw [flush_quiet s ho, choose_settled _ hk]
  rfl

/-- Setting the queue twice, the second time to what it was. -/
theorem setLink_setQueue_back (s : State) (q : List Request) (hq : s.link.queue = []) :
    (s.setLink (s.link.setQueue q)).setLink ((s.setLink (s.link.setQueue q)).link.setQueue []) = s := by
  cases s with
  | mk now pins plan adm lane chan scan reg inc ports time link outbox free pending =>
    cases link
    simp only at hq
    subst hq
    rfl

/-- R176: a good frame that meets an empty queue, an empty slot and no pending RESET FULL is dispatched in its event. -/
theorem goodFrame_ready (r : Request) (s : State) (hq : s.link.queue = []) (hs : s.link.slot = none)
    (hp : s.link.resetPending = false) :
    goodFrame r s = (handle r s).1.setLink ((handle r s).1.link.setSlot (some (handle r s).2)) := by
  have e := setLink_setQueue_back s [r] hq
  have hj : joinReceive r s = s.setLink (s.link.setQueue [r]) := by simp [joinReceive, hq]
  have hd : dispatch (s.setLink (s.link.setQueue [r])) =
      (handle r ((s.setLink (s.link.setQueue [r])).setLink
        ((s.setLink (s.link.setQueue [r])).link.setQueue []))).1.setLink
        ((handle r ((s.setLink (s.link.setQueue [r])).setLink
          ((s.setLink (s.link.setQueue [r])).link.setQueue []))).1.link.setSlot
          (some (handle r ((s.setLink (s.link.setQueue [r])).setLink
            ((s.setLink (s.link.setQueue [r])).link.setQueue []))).2)) := by
    have h1 : (s.setLink (s.link.setQueue [r])).link.queue = [r] := rfl
    have h2 : (s.setLink (s.link.setQueue [r])).link.slot = none := hs
    have h3 : (s.setLink (s.link.setQueue [r])).link.resetPending = false := hp
    unfold dispatch
    rw [h1, h2, h3]
  rw [e] at hd
  rw [goodFrame, if_pos hq, hj, hd]

/-- R175: a good frame that meets a waiting one joins behind it, or is lost to overrun. -/
theorem goodFrame_waiting (r : Request) (s : State) (hq : s.link.queue ≠ []) : goodFrame r s = joinReceive r s := by
  simp [goodFrame, hq]

/-- R173: everything the end of a gap can do on the host line: nothing in HUNT or within 20 ms, and otherwise the frame is
abandoned. -/
theorem hostEndGap_cases (s : State) :
    hostEndGap s = s ∨ ∃ p, s.link.rx = some p ∧
      gapExceeded s.now (charTicks s.link.divisor 1) p.gapFrom = true ∧ hostEndGap s = hostAbandoned s := by
  unfold hostEndGap; split
  · rename_i p hp
    split
    · exact .inr ⟨p, hp, ‹_›, rfl⟩
    · exact .inl rfl
  · exact .inl rfl

end Sys2Proof.Machine
end

