-- ==== Sys2Proof/Laws/Requests.lean ====
section
/-! SUPPORT. What a request does that is dispatched at once: the effects of its handler, its reply in the slot, and the
notices of the event. One lemma for all request kinds, and the frames that later lemmas compose. -/

namespace Sys2Proof.Machine

/-! ### Frames -/

/-- Two states are equal when every field is. -/
theorem State.ext_parts {s t : State} (h : ∀ p, samePart s t p) : t = s := by
  obtain ⟨⟩ := s
  obtain ⟨⟩ := t
  obtain rfl := h .now
  obtain rfl := h .pins
  obtain rfl := h .plan
  obtain rfl := h .adm
  obtain rfl := h .lane
  obtain rfl := h .chan
  obtain rfl := h .scan
  obtain rfl := h .reg
  obtain rfl := h .inc
  obtain rfl := h .ports
  obtain rfl := h .time
  obtain rfl := h .link
  obtain rfl := h .outbox
  obtain rfl := h .free
  obtain rfl := h .pending
  rfl

theorem keepsBut.rfl' (c : List Part) (s : State) : keepsBut c s s := by
  intro p _; cases p <;> rfl

theorem keepsBut.trans {c : List Part} {s t u : State} (h : keepsBut c s t) (k : keepsBut c t u) : keepsBut c s u := by
  intro p hp
  have a := h p hp
  have b := k p hp
  cases p <;> exact Eq.trans b a

theorem keepsBut.mono {c d : List Part} {s t : State} (h : keepsBut c s t) (hd : ∀ p ∈ c, p ∈ d) : keepsBut d s t :=
  fun p hp => h p fun hc => hp (hd p hc)

theorem keepsBut.foldl {α : Type} {c : List Part} (f : State → α → State) (hf : ∀ s a, keepsBut c s (f s a)) (l : List α)
    (s : State) : keepsBut c s (l.foldl f s) := by
  induction l generalizing s with
  | nil => exact .rfl' c s
  | cons a l ih => exact (hf s a).trans (ih _)

/-- The end of an event moves the link, the outbox and the count of free values. -/
theorem keepsBut_finish (s : State) : keepsBut [.link, .outbox, .free] s (finish s) := by
  intro p hp; cases p <;> first | rfl | simp at hp

/-- Setting the slot on two links with one core. -/
theorem setSlot_core {k k' : HostLink} (h : k.core = k'.core) (r : Option Reply) :
    (k.setSlot r).core = { k' with slot := r }.core := by
  have e : ∀ j : HostLink, (j.setSlot r).core = { j.core with slot := r } := fun _ => rfl
  rw [e, h]
  rfl

/-! ### A request dispatched in its event -/

/-- R176: the outcome of a request that is dispatched at once, from the answer of its handler. -/
theorem request_dispatched {kind tag : Byte} {body : List Byte} {s : State} {f : List Byte → State → Answer}
    (hs : serviceOf kind.toNat = some f) (h : linkReady s) :
    request kind tag body s = .next (finish ((f body s).1.setLink ((f body s).1.link.setSlot
      (some { kind := kind + 0x80, tag := tag, status := (f body s).2.1, items := (f body s).2.2 })))) := by
  obtain ⟨h1, h2, h3⟩ := h
  simp only [request, goodFrame_ready _ _ h1 h2 h3, handle, hs]

/-- An answer whose handler leaves the link but for notices, and every other field but those listed, as it was. -/
theorem answered_finish (changed : List Part) (s s1 : State) (kind tag : Byte) (st : Status) (items : Items)
    (hc : s1.link.core = s.link.core) (hk : keepsBut (changed ++ [.link, .outbox, .free]) s s1) :
    answered changed s
      (finish (s1.setLink (s1.link.setSlot
        (some { kind := kind + 0x80, tag := tag, status := st, items := items })))) kind tag st items := by
  refine ⟨?_, rfl, ?_⟩
  · exact (finish_link_core _).trans (setSlot_core hc _)
  · refine hk.trans (keepsBut.mono (c := [.link, .outbox, .free]) ?_ (by intro p hp; simp at hp ⊢; tauto))
    refine keepsBut.trans ?_ (keepsBut_finish _)
    intro p hp; cases p <;> first | rfl | simp at hp

/-- R176, R177: a request dispatched at once answers with its handler's status and items, under the handler's frame. -/
theorem request_answers {kind tag : Byte} {body : List Byte} {s s1 : State} {f : List Byte → State → Answer}
    {st : Status} {items : Items} (changed : List Part) (hs : serviceOf kind.toNat = some f) (h : linkReady s)
    (he : f body s = (s1, st, items)) (hc : s1.link.core = s.link.core)
    (hk : keepsBut (changed ++ [.link, .outbox, .free]) s s1) :
    ∃ t, request kind tag body s = .next t ∧ answered changed s t kind tag st items ∧
      keepsBut [.link, .outbox, .free] s1 t := by
  refine ⟨_, request_dispatched hs h, ?_, ?_⟩
  · rw [he]; exact answered_finish changed s s1 kind tag st items hc hk
  · rw [he]
    refine keepsBut.trans ?_ (keepsBut_finish _)
    intro p hp; cases p <;> first | rfl | simp at hp

/-- R177: a refusal. -/
theorem request_refused {kind tag : Byte} {body : List Byte} {s : State} {f : List Byte → State → Answer} {st : Status}
    (hs : serviceOf kind.toNat = some f) (h : linkReady s) (he : f body s = refuse st s) :
    ∃ t, request kind tag body s = .next t ∧ answered [] s t kind tag st .none := by
  obtain ⟨t, h1, h2, -⟩ := request_answers [] hs h he rfl (.rfl' _ s)
  exact ⟨t, h1, h2⟩

/-- R3: the gate as the rule words it. -/
theorem planGate_iff (s : State) : planGate s = true ↔ gateOpen s := by
  simp [planGate, gateOpen, allStations]

theorem planGate_closed (s : State) (h : s.adm.campaign ≠ .idle ∨ ∃ n, s.stationState n = some .stranded) :
    planGate s = false := by
  rw [← Bool.not_eq_true, planGate_iff]
  rintro ⟨h1, h2⟩
  rcases h with h | ⟨n, h⟩
  · exact h h1
  · exact h2 n h

end Sys2Proof.Machine
end

