-- ==== Sys2Proof/Laws/Plan.lean ====
section
/-! SUPPORT. What the shared operations of the plan requests do: clearing and forming the blind flags, storing a plan,
restarting the fault detectors. -/

namespace Sys2Proof.Machine

/-! ### Blind flags -/

theorem setBlind_keeps (z : Fin 12) (bad : List (Fin 8)) (s : State) : keepsBut [.reg, .outbox] s (setBlind z bad s) := by
  unfold setBlind
  extract_lets r r' s'
  split <;> · intro p hp; cases p <;> first | rfl | simp at hp

/-- R111: the flag and the list of one zone. -/
theorem setBlind_zone (z w : Fin 12) (bad : List (Fin 8)) (s : State) :
    (setBlind z bad s).zoneRec w =
      if w = z then { s.zoneRec z with blind := !bad.isEmpty, blindInputs := bad } else s.zoneRec w := by
  unfold setBlind
  extract_lets r r' s'
  have h : s'.zoneRec w = if w = z then r' else s.zoneRec w := by
    show tget (tset s.reg.zones z r') w = _
    exact tget_tset _ _ _ _
  split <;> exact h

theorem setBlind_nextZones (z : Fin 12) (bad : List (Fin 8)) (s : State) :
    (setBlind z bad s).reg.nextZones = s.reg.nextZones := by
  unfold setBlind
  extract_lets r r' s'
  split <;> rfl

/-- R111, R120: every flag cleared and every list emptied. -/
theorem clearAllBlind_spec (s : State) :
    keepsBut [.reg, .outbox] s (clearAllBlind s) ∧ (clearAllBlind s).reg.nextZones = s.reg.nextZones ∧
      ∀ w, (clearAllBlind s).zoneRec w = { s.zoneRec w with blind := false, blindInputs := [] } := by
  have h : ∀ (l : List (Fin 12)) (s : State),
      keepsBut [.reg, .outbox] s (l.foldl (fun s z => setBlind z [] s) s) ∧
        (l.foldl (fun s z => setBlind z [] s) s).reg.nextZones = s.reg.nextZones ∧
        ∀ w, (l.foldl (fun s z => setBlind z [] s) s).zoneRec w =
          if w ∈ l then { s.zoneRec w with blind := false, blindInputs := [] } else s.zoneRec w := by
    intro l
    induction l with
    | nil => intro s; exact ⟨.rfl' _ _, rfl, by simp⟩
    | cons a l ih =>
      intro s
      obtain ⟨h1, h2, h3⟩ := ih (setBlind a [] s)
      refine ⟨(setBlind_keeps a [] s).trans h1, h2.trans (setBlind_nextZones _ _ _), fun w => ?_⟩
      rw [List.foldl_cons, h3 w, setBlind_zone]
      by_cases hw : w = a <;> by_cases hl : w ∈ l <;> simp [hw, hl]
  obtain ⟨h1, h2, h3⟩ := h allZones s
  unfold clearAllBlind
  exact ⟨h1, h2, fun w => (h3 w).trans (if_pos (List.mem_finRange w))⟩

theorem formBlind_keeps (z : Fin 12) (s : State) : keepsBut [.reg, .outbox] s (formBlind z s) := by
  unfold formBlind
  split
  · split
    · exact .rfl' _ _
    · exact setBlind_keeps _ _ _
  · exact .rfl' _ _

/-- R111: what the flag and list of a zone become when they are formed. -/
def formedBlind (s : State) (z : Fin 12) (r : ZoneRec) : ZoneRec :=
  match s.zonePlan z with
  | none => r
  | some p =>
    if p.law = .none then r
    else { r with blind := !(invalidInputs s p.law).isEmpty, blindInputs := invalidInputs s p.law }

theorem formBlind_zone (z w : Fin 12) (s : State) :
    (formBlind z s).zoneRec w = if w = z then formedBlind s z (s.zoneRec w) else s.zoneRec w := by
  unfold formBlind formedBlind
  cases s.zonePlan z with
  | none => simp
  | some p =>
    by_cases hl : p.law = .none
    · simp [hl]
    · simp only [hl, if_false]
      rw [setBlind_zone]
      by_cases hw : w = z
      · subst hw; rfl
      · simp only [hw, if_false]

theorem formBlind_nextZones (z : Fin 12) (s : State) : (formBlind z s).reg.nextZones = s.reg.nextZones := by
  unfold formBlind
  split
  · split
    · rfl
    · exact setBlind_nextZones _ _ _
  · rfl

theorem formedBlind_congr {s t : State} (h : keepsBut [.reg, .outbox] s t) (z : Fin 12) (r : ZoneRec) :
    formedBlind t z r = formedBlind s z r := by
  have hp : t.plan = s.plan := h .plan (by simp)
  have hs : t.scan = s.scan := h .scan (by simp)
  simp only [formedBlind, State.zonePlan, invalidInputs, State.input, hp, hs]

/-- R111: every flag formed. -/
theorem formAllBlind_spec (s : State) :
    keepsBut [.reg, .outbox] s (formAllBlind s) ∧ (formAllBlind s).reg.nextZones = s.reg.nextZones ∧
      ∀ w, (formAllBlind s).zoneRec w = formedBlind s w (s.zoneRec w) := by
  have h : ∀ (l : List (Fin 12)) (s : State), l.Nodup →
      keepsBut [.reg, .outbox] s (l.foldl (fun s z => formBlind z s) s) ∧
        (l.foldl (fun s z => formBlind z s) s).reg.nextZones = s.reg.nextZones ∧
        ∀ w, (l.foldl (fun s z => formBlind z s) s).zoneRec w =
          if w ∈ l then formedBlind s w (s.zoneRec w) else s.zoneRec w := by
    intro l
    induction l with
    | nil => intro s _; exact ⟨.rfl' _ _, rfl, by simp⟩
    | cons a l ih =>
      intro s hl
      obtain ⟨ha, hl⟩ := List.nodup_cons.mp hl
      obtain ⟨h1, h2, h3⟩ := ih (formBlind a s) hl
      refine ⟨(formBlind_keeps a s).trans h1, h2.trans (formBlind_nextZones _ _), fun w => ?_⟩
      rw [List.foldl_cons, h3 w, formedBlind_congr (formBlind_keeps a s), formBlind_zone]
      by_cases hw : w = a
      · subst hw; simp [ha]
      · simp [hw]
  obtain ⟨h1, h2, h3⟩ := h allZones s (List.nodup_finRange 12)
  unfold formAllBlind
  exact ⟨h1, h2, fun w => (h3 w).trans (if_pos (List.mem_finRange w))⟩

/-! ### Writes -/

/-- R111, R121: the notices of the clearing of every flag, in zone order. -/
theorem clearAllBlind_outbox (s : State) :
    (clearAllBlind s).outbox = s.outbox ++ (allZones.filter fun z => (s.zoneRec z).blind).map fun z =>
      (.regulator, .zone z false [] (s.zoneRec z).demand (s.zoneRec z).target (s.zoneRec z).trackCount) := by
  have h1 : ∀ (a : Fin 12) (s : State), (setBlind a [] s).outbox = s.outbox ++
      if (s.zoneRec a).blind then
        [(.regulator, .zone a false [] (s.zoneRec a).demand (s.zoneRec a).target (s.zoneRec a).trackCount)]
      else [] := by
    intro a s
    unfold setBlind
    cases hb : (s.zoneRec a).blind <;> simp [hb, State.emit, State.setZoneRec, zoneNotice]
  have h : ∀ (l : List (Fin 12)) (s : State), l.Nodup →
      (l.foldl (fun s z => setBlind z [] s) s).outbox =
        s.outbox ++ (l.filter fun z => (s.zoneRec z).blind).map fun z =>
          (.regulator, .zone z false [] (s.zoneRec z).demand (s.zoneRec z).target (s.zoneRec z).trackCount) := by
    intro l
    induction l with
    | nil => intro s _; simp
    | cons a l ih =>
      intro s hl
      obtain ⟨ha, hl⟩ := List.nodup_cons.mp hl
      have hz : ∀ z ∈ l, (setBlind a [] s).zoneRec z = s.zoneRec z := fun z hz => by
        rw [setBlind_zone, if_neg (by rintro rfl; exact ha hz)]
      rw [List.foldl_cons, ih _ hl, h1, List.append_assoc, List.filter_congr (fun z h => by rw [hz z h])]
      refine congrArg _ ?_
      rw [List.map_congr_left (fun z h => by rw [hz z (List.mem_of_mem_filter h)])]
      cases hb : (s.zoneRec a).blind <;> simp [hb]
  exact h allZones s (List.nodup_finRange 12)

/-- R2, R4, R111: an accepted write, before its own further effects. -/
theorem storePlan_spec (p : PlanStore) (s : State) : storePlan p s = planWritten p s := by
  unfold storePlan planWritten clearedNotes
  by_cases hr : s.plan.state = .ready
  · simp only [hr, if_true]
    generalize hs' : s.setPlan { p with state := .draft, derived := none } = s'
    have k : keepsBut [.plan] s s' := by rw [← hs']; intro q hq; cases q <;> first | rfl | simp at hq
    have kp : s'.plan = { p with state := .draft, derived := none } := by rw [← hs']; rfl
    have kz : ∀ z, s'.zoneRec z = s.zoneRec z := fun z => by rw [← hs']; rfl
    obtain ⟨h1, h2, h3⟩ := clearAllBlind_spec s'
    have h4 := clearAllBlind_outbox s'
    generalize clearAllBlind s' = t at h1 h2 h3 h4
    simp only [kz, show s'.outbox = s.outbox from k .outbox (by simp)] at h3 h4
    have kr : s'.reg = s.reg := k .reg (by simp)
    have kt : keepsBut [.plan, .reg, .outbox] s t := (k.mono (by simp)).trans (h1.mono (by simp))
    refine State.ext_parts fun q => ?_
    replace kt := kt q
    cases q <;> first | exact kt (by simp) | clear kt
    case reg =>
      have h5 : t.reg.zones = tmap (fun _ r => { r with blind := false, blindInputs := [] }) s.reg.zones :=
        tables_eq fun z => by rw [tget_tmap]; exact h3 z
      rw [kr] at h2
      exact congrArg₂ Regulator.mk h5 h2
    case outbox => exact h4
    case plan => exact (h1 .plan (by simp)).trans kp
  · simp only [hr, if_false]
    refine State.ext_parts fun q => ?_
    cases q
    case reg => exact congrArg (Regulator.mk · _) (tables_eq fun z => by rw [tget_tmap])
    case outbox => exact (List.append_nil _).symm
    all_goals rfl

/-! ### Fault detectors -/

/-- R92: a rewritten record: the detectors start afresh, and a set OPEN flag clears when open-load detect is off. -/
theorem restartDetectors_spec (c : Fin 32) (od : Bool) (s : State) :
    keepsBut [.chan, .outbox] s (restartDetectors c od s) ∧
      (restartDetectors c od s).chan.nextMeasure = s.chan.nextMeasure ∧
      (restartDetectors c od s).chan.nextRamp = s.chan.nextRamp ∧
      ∀ d, (restartDetectors c od s).channel d =
        if d = c then { s.channel d with
          overloadProgress := 0, openProgress := 0, openFlag := (s.channel d).openFlag && od }
        else s.channel d := by
  unfold restartDetectors
  generalize hs' : s.setChannel c { s.channel c with overloadProgress := 0, openProgress := 0 } = s'
  have h : ∀ d, s'.channel d = if d = c then { s.channel c with overloadProgress := 0, openProgress := 0 }
      else s.channel d := fun d => by rw [← hs']; exact tget_tset _ _ _ _
  have k : keepsBut [.chan, .outbox] s s' := by
    rw [← hs']; intro q hq; cases q <;> first | rfl | simp at hq
  have m : s'.chan.nextMeasure = s.chan.nextMeasure := by rw [← hs']; rfl
  have p : s'.chan.nextRamp = s.chan.nextRamp := by rw [← hs']; rfl
  have hc := h c
  rw [if_pos rfl] at hc
  dsimp only
  split
  · rename_i ho
    refine ⟨k.trans ?_, m, p, fun d => ?_⟩
    · intro q hq; cases q <;> first | rfl | simp at hq
    · refine Eq.trans (tget_tset _ _ _ _) ?_
      by_cases hd : d = c
      · subst hd; simp [hc, ho.2]
      · rw [if_neg hd, if_neg hd]; exact (h d).trans (if_neg hd)
  · rename_i ho
    refine ⟨k, m, p, fun d => ?_⟩
    rw [h d]
    by_cases hd : d = c
    · subst hd
      rw [if_pos rfl, if_pos rfl]
      rw [hc] at ho
      cases hf : (s.channel d).openFlag <;> cases od <;> simp_all
    · rw [if_neg hd, if_neg hd]

/-- R13: fault detection stops on every channel. -/
theorem stopDetectors_spec (s : State) :
    keepsBut [.chan, .outbox] s (stopDetectors s) ∧ (stopDetectors s).chan.nextMeasure = s.chan.nextMeasure ∧
      (stopDetectors s).chan.nextRamp = s.chan.nextRamp ∧
      ∀ d, (stopDetectors s).channel d =
        { s.channel d with overloadProgress := 0, openProgress := 0, openFlag := false } := by
  have h : ∀ (l : List (Fin 32)) (s : State),
      keepsBut [.chan, .outbox] s (l.foldl (fun s c => restartDetectors c false s) s) ∧
        (l.foldl (fun s c => restartDetectors c false s) s).chan.nextMeasure = s.chan.nextMeasure ∧
        (l.foldl (fun s c => restartDetectors c false s) s).chan.nextRamp = s.chan.nextRamp ∧
        ∀ d, (l.foldl (fun s c => restartDetectors c false s) s).channel d =
          if d ∈ l then { s.channel d with overloadProgress := 0, openProgress := 0, openFlag := false }
          else s.channel d := by
    intro l
    induction l with
    | nil => intro s; exact ⟨.rfl' _ _, rfl, rfl, by simp⟩
    | cons a l ih =>
      intro s
      obtain ⟨g1, g2, g3, g4⟩ := restartDetectors_spec a false s
      obtain ⟨h1, h2, h3, h4⟩ := ih (restartDetectors a false s)
      refine ⟨g1.trans h1, h2.trans g2, h3.trans g3, fun d => ?_⟩
      rw [List.foldl_cons, h4 d, g4 d]
      by_cases hd : d = a <;> by_cases hl : d ∈ l <;> simp [hd, hl]
  obtain ⟨h1, h2, h3, h4⟩ := h allChannels s
  unfold stopDetectors
  exact ⟨h1, h2, h3, fun d => (h4 d).trans (if_pos (List.mem_finRange d))⟩

end Sys2Proof.Machine
end

