-- ==== Sys2Proof/Laws/Timing.lean ====
section
/-! SUPPORT. What a stretch of local time does and leaves as it was, and what the tests of the events that fall due say in
the words of the rules. -/

namespace Sys2Proof.Machine

/-! ### Local time passes -/

@[simp] theorem progressAfter_true (dt p : Nat) : progressAfter dt true p = p + dt := rfl
@[simp] theorem progressAfter_false (dt p : Nat) : progressAfter dt false p = 0 := rfl

@[simp] theorem advance_zero (s : State) : advance 0 s = s := rfl

/-- Local time moves the instant and the deglitch counts, and nothing else. -/
theorem advance_keeps (dt : Nat) (s : State) : keepsBut [.now, .chan, .lane, .inc] s (advance dt s) := by
  intro p hp
  unfold advance
  split
  · cases p <;> rfl
  · cases p <;> first | rfl | simp at hp

@[simp] theorem advance_now (dt : Nat) (s : State) : (advance dt s).now = s.now + dt := by
  unfold advance
  split <;> simp_all

/-- R92, R93, R95: the detectors of a channel after a stretch of local time. -/
theorem advance_channel {dt : Nat} (h : dt ≠ 0) (s : State) (c : Fin 32) :
    (advance dt s).channel c = detectorsAfter dt s c (s.channel c) := by
  simp [advance, h, State.channel]

/-- R47: the ready count of a station after a stretch of local time. -/
theorem advance_readyCount {dt : Nat} (h : dt ≠ 0) (s : State) (n : Fin 16) :
    tget (advance dt s).lane.readyCount n =
      progressAfter dt (tget s.pins.ready n != tget s.lane.ready n) (tget s.lane.readyCount n) := by
  simp [advance, h]

/-- R123: the count of the incident line after a stretch of local time. -/
theorem advance_lineCount {dt : Nat} (h : dt ≠ 0) (s : State) :
    (advance dt s).inc.lineCount = progressAfter dt (s.pins.incident != s.inc.line) s.inc.lineCount := by
  simp [advance, h]

/-! ### What has fallen due -/

@[simp] theorem mem_dueIf (b : Bool) (c d : Instr) : c ∈ dueIf b d ↔ b = true ∧ c = d := by
  cases b <;> simp [dueIf]

@[simp] theorem mem_dueChange (l : List Bool) (c active inactive : Instr) :
    c ∈ dueChange l active inactive ↔
      (∃ more, l = true :: more ∧ c = active) ∨ ∃ more, l = false :: more ∧ c = inactive := by
  rcases l with _ | ⟨b, l⟩
  · simp [dueChange]
  · cases b <;> simp [dueChange]

theorem isDue_iff (s : State) (timer : Option Nat) : isDue s timer = true ↔ ranOut s timer := by
  cases timer <;> simp [isDue, ranOut]

theorem gapDue_iff (s : State) (divisor gapFrom : Nat) :
    gapDue s divisor gapFrom = true ↔ gapRanOut s divisor gapFrom := by
  simp [gapDue, gapRanOut, gapTicks, charTicks]

theorem overloadCondition_iff (s : State) (c : Fin 32) : overloadCondition s c = true ↔ overloaded s c := by
  unfold overloadCondition overloaded
  cases s.channelPlan c with
  | none => simp
  | some p => cases h : p.threshold <;> simp [thresholdTenths, h]

theorem openCondition_iff (s : State) (c : Fin 32) : openCondition s c = true ↔ openLoaded s c := by
  unfold openCondition openLoaded fieldLevel
  cases s.channelPlan c <;> simp [and_assoc]

/-- R107: the stale limit in ticks. -/
theorem ticksOfMs_staleLimit (k : ScanConfig) : ticksOfMs (staleLimit k) = staleTicks k := by
  cases hm : k.mode <;> cases ht : k.trigger <;> simp [staleLimit, staleTicks, ticksOfMs, hm, ht]

end Sys2Proof.Machine
end

