-- ==== Sys2Proof/Tests/Slice0.lean ====
section
/-! SUPPORT. The checks of `Instr.wf` each refuse an ill-formed command; the spec's worked examples; and for each
statement with hypotheses a state and operands that meet them, clause by clause (theorem met_<statement>). -/

namespace Sys2Proof.Tests

-- One theorem after another: the kernel evaluations of this file would each hold a thread of their own.
set_option Elab.async false

open Sys2Proof.Machine

/-! ### Well-formed commands -/

theorem test_wf_host_body : (Instr.hostFrameTaken { kind := 6, tag := 0, body := List.replicate 513 0, crc := 0 }).wf =
    false := by decide +kernel

theorem test_wf_request_body : (Instr.planClear 0 (List.replicate 513 0)).wf = false := by decide +kernel

theorem test_wf_field_body :
    (Instr.fieldFrameTaken 0 { station := 0, kind := 0x43, body := List.replicate 251 0, crc := 0 }).wf = false := by
  decide +kernel

theorem test_wf_known_kind : (Instr.unknownKindRequest 0x06 0 []).wf = false := by decide

theorem test_wf_unknown_kind_body : (Instr.unknownKindRequest 0x08 0 (List.replicate 513 0)).wf = false := by
  decide +kernel

theorem test_wf_longest : (Instr.readPlan 0 (List.replicate 512 0)).wf = true := by
  show decide ((List.replicate 512 (0 : Byte)).length ≤ 512) = true
  rw [List.length_replicate]; rfl

/-! ### The spec's worked examples -/

/-- R142: the check value over the text 123456789. -/
theorem test_crc_check_value : crc [0x31, 0x32, 0x33, 0x34, 0x35, 0x36, 0x37, 0x38, 0x39] = 0x29B1 := by
  decide +kernel

/-- R138: the eleven bits of the character 0x43 in the order they are sent: start, data least significant first, even
parity, stop. -/
theorem test_character_bits :
    charBits 0x43 = [false, true, true, false, false, false, false, true, false, true, true] := by decide

/-- R189: the codes of the block reasons. -/
theorem test_block_reason_codes :
    ([.none, .cover, .settle, .pin, .portFault] : List BlockReason).map blockReasonCode = [0, 1, 2, 3, 4] := by decide

/-- R139, the table: divisors and errors. -/
theorem test_divisor_table :
    [300, 1200, 2400, 4800, 9600, 19200, 38400, 57600, 100000, 115200].map (fun r => (divisorOf r, divisorError r)) =
      [(3333, 100), (833, 400), (417, 800), (208, 1600), (104, 1600), (52, 1600), (26, 1600), (17, 20800), (10, 0),
       (9, 36800)] := by decide +kernel

/-- R139, the last paragraph: the ends of the accepted ranges above 100000 bit/s. -/
theorem test_divisor_ranges :
    [102000, 102001, 108888, 108889, 113333, 113334].map rateAccepted = [true, false, false, true, true, false] := by
  decide +kernel

/-- The sensor record of the example of six conversions (file 05). -/
def coSensor : SensorPlan :=
  { kind := .co, rawBroken := 400, rawLo := 819, rawHi := 4095, valueLo := 0, valueHi := 300, shift := 2 }

/-- The value, the filtered value and the three flags after a list of conversions. -/
def afterConversions (raws : List Nat) : Option Nat × Option Nat × Bool × Bool × Bool :=
  let r := raws.foldl (fun r raw => converted 0 coSensor raw r) InputRec.fresh
  (r.value, r.filtered, r.broken, r.valid, r.seedPending)

/-- R105, R106: the six conversions of the example. -/
theorem test_six_conversions :
    (List.range 6).map (fun k => afterConversions (([2457, 2785, 4200, 300, 1000, 600] : List Nat).take (k + 1))) =
      [(some 150, some 150, false, true, false), (some 180, some 157, false, true, false),
       (some 300, some 192, false, true, false), (some 300, some 192, true, false, true),
       (some 17, some 17, false, true, false), (some 0, some 13, false, true, false)] := by decide +kernel

/-- R85: the ramp toward 800 by 50, and the step that is longer than the distance. -/
theorem test_ramp : moveToward 50 800 600 = 650 ∧ moveToward 50 800 750 = 800 ∧ moveToward 50 575 600 = 575 := by
  decide

/-- R159: the seconds of a late pulse with P 16,000,200. -/
theorem test_late_seconds : lateSeconds 20000000 16000200 = 1 ∧ lateSeconds 30000000 16000200 = 2 := by decide

/-- R160: eight samples that sum to 128,001,600. -/
theorem test_rate : rateOf (List.replicate 8 16000200) = 16000200 := by decide

/-! ### A small plan and states over it -/

def station0 : StationPlan :=
  { bitRate := 19200, restartPulse := 500, bootTimeout := 900, dialogueTimeout := 800, alignTimeout := 60,
    captureTolerance := 100, handbackTolerance := 20, holdGrace := 300, retryLimit := 1 }

/-- The VENT zone of the examples of R113 to R115. -/
def vent0 : ZonePlan :=
  { kind := .vent, holdLimit := 1000, settleTime := 10, dwell := 5, deadBand := 20, baseLevel := 200,
    blindLevel := 600, law := .vent (some 1) 50 140 (some 2) 3000 7000 }

/-- The LIGHT zone of the example of R112. -/
def light1 : ZonePlan :=
  { kind := .light, holdLimit := 1000, settleTime := 0, dwell := 0, deadBand := 30, baseLevel := 100,
    blindLevel := 900, law := .light 0 50 250 }

def channelOf (z : Fin 12) (sense : IncidentSense) : ChannelPlan :=
  { owner := 0, zone := z, capacity := 200, minLevel := 100, maxLevel := 900, rampUp := 50, rampDown := 50,
    incidentLevel := 700, incidentSense := sense, incidentRamp := 100, threshold := .low, deglitch := 10,
    openDetect := true }

def sensorOf (k : SensorKind) (top : Nat) : SensorPlan :=
  { kind := k, rawBroken := 400, rawLo := 819, rawHi := 4095, valueLo := 0, valueHi := top, shift := 2 }

/-- One station with a vent channel and a lighting channel. -/
def store : PlanStore :=
  { state := .draft
    stations := tset (tfill 16 none) 0 (some station0)
    zones := tset (tset (tfill 12 none) 0 (some vent0)) 1 (some light1)
    channels := tset (tset (tfill 32 none) 0 (some (channelOf 0 .reverse))) 1 (some (channelOf 1 .keep))
    sensors := tset (tset (tset (tfill 8 none) 0 (some (sensorOf .luminance 6000))) 1 (some coSensor)) 2
      (some (sensorOf .extinction 9000))
    derived := none }

/-- The plan loaded and not yet checked. -/
def drafted : State :=
  { State.reset with
    plan := store
    adm := { State.reset.adm with stations := tset State.reset.adm.stations 0 (some StationRec.fresh) }
    ports := tset State.reset.ports 0 { Port.fresh with rate := some 19200, divisor := some 52 } }

/-- The plan READY, in IDLE. -/
def planned : State :=
  { drafted with plan := { store with state := .ready, derived := some (derive_ store) } }

def withCampaign (c : CampaignState) (q : List QueueEntry) (s : State) : State :=
  { s with adm := { s.adm with
      campaign := c, queue := q
      params := some { windowStart := 0, windowEnd := 0, lanesInUse := 4, passOverLimit := 2 } } }

def withStation0 (r : StationRec) (s : State) : State :=
  { s with adm := { s.adm with stations := tset s.adm.stations 0 (some r) } }

def withLane0 (r : Lane) (s : State) : State := { s with lane := { s.lane with lanes := tset s.lane.lanes 0 r } }

def withPort0 (p : Port) (s : State) : State := { s with ports := tset s.ports 0 p }

def withChannel (c : Fin 32) (r : Channel) (s : State) : State :=
  { s with chan := { s.chan with channels := tset s.chan.channels c r } }

def entry0 : QueueEntry :=
  { station := 0, cls := 2, preCaptured := false, passOver := 0, pinned := false, block := .none }

/-- A channel the part drives at 400. -/
def drivenAt (m : Mode) : Channel :=
  { Channel.fresh with mode := m, relay := true, stage := true, level := 400, target := some 400 }

/-- A campaign HALTED with station 0 in lane 0 at a stage, its channels in HOLD and a stage timer at 100. -/
def inLane (st : Stage) (r : StationRec) : State :=
  withChannel 0 (drivenAt .hold) (withChannel 1 (drivenAt .hold)
    (withLane0 { Lane.fresh with stage := st, station := some 0, timer := some 100 }
      (withStation0 { r with state := .active } (withCampaign .halted [] planned))))

def dialogueOf (k : DialogueKind) : Dialogue := { kind := k, body := [], transmit := .sent, timer := some 200 }

/-- The port of station 0 with a dialogue outstanding. -/
def talking (k : DialogueKind) : Port :=
  { Port.fresh with rate := some 19200, divisor := some 52, dialogue := some (dialogueOf k) }

/-- A frame from station 0 with its CRC. -/
def fieldFrame (kind : Byte) (body : List Byte) : FieldFrame :=
  { station := 0, kind := kind, body := body, crc := crc (fieldCovered 0 kind body) }

/-- A host frame with its CRC. -/
def hostFrame (kind : Byte) (body : List Byte) : HostFrame :=
  { kind := kind, tag := 9, body := body, crc := crc (hostCovered kind 9 body) }

def stationBody (n rate pulse boot dialogue align capture handback grace retries : Nat) : List Byte :=
  byteOf n :: bytes4 rate ++ bytes2 pulse ++ bytes2 boot ++ bytes2 dialogue ++
    [byteOf align, byteOf capture, byteOf handback] ++ bytes2 grace ++ [byteOf retries]

def zoneBody (z kind hold dwell law lum k lfull co coLow coHigh ext extLow extHigh : Nat) : List Byte :=
  byteOf z :: byteOf kind :: bytes2 hold ++ bytes2 10 ++ [byteOf dwell, 20] ++ bytes2 200 ++ bytes2 600 ++
    byteOf law :: byteOf lum :: bytes2 k ++ bytes2 lfull ++ byteOf co :: bytes2 coLow ++ bytes2 coHigh ++
    byteOf ext :: bytes2 extLow ++ bytes2 extHigh

def channelBody (c o z minLevel maxLevel sense deglitch : Nat) : List Byte :=
  byteOf c :: byteOf o :: byteOf z :: bytes2 200 ++ bytes2 minLevel ++ bytes2 maxLevel ++ bytes2 50 ++ bytes2 50 ++
    bytes2 700 ++ byteOf sense :: bytes2 100 ++ [0, byteOf deglitch, 1]

def sensorBody (i kind broken lo hi vlo vhi : Nat) : List Byte :=
  byteOf i :: byteOf kind :: bytes2 broken ++ bytes2 lo ++ bytes2 hi ++ bytes2 vlo ++ bytes2 vhi ++ [2]

/-- What a command makes of a state, where it answers a next one. -/
def after (c : Instr) (s : State) : Option State :=
  match exec c s with
  | .next t => some t
  | _ => none

/-- The status of the reply in the slot after a command. -/
def statusAfter (c : Instr) (s : State) : Option Status := (after c s).bind fun t => t.link.slot.map (·.status)

/-! ### Commands -/

/-- R5, worked example 1.8: the record as stored and echoed, the port's rate, and the refusal of 57600 bit/s. -/
theorem test_plan_station_example :
    ((after (.planStation 1 (stationBody 4 19200 500 1200 800 90 150 20 300 5)) State.reset).map fun t =>
        (t.stationPlan 4, (t.port 4).divisor)) =
      some (some { bitRate := 19200, restartPulse := 500, bootTimeout := 900, dialogueTimeout := 800
                   alignTimeout := 60, captureTolerance := 100, handbackTolerance := 20, holdGrace := 300
                   retryLimit := 3 }, some 52) ∧
      statusAfter (.planStation 1 (stationBody 4 57600 500 1200 800 90 150 20 300 5)) State.reset =
        some .rateError := by decide +kernel

/-- The plan of worked example 1.9, its zone 0 with a hold limit. -/
def example19 (limit : Nat) : PlanStore :=
  let ch (o : Fin 16) (z : Fin 12) (cap : Nat) : Option ChannelPlan :=
    some { channelOf z .keep with owner := o, capacity := cap }
  { store with
    stations := tset (tset (tset (tset (tfill 16 none) 0 (some station0)) 1 (some station0)) 2 (some station0)) 3
      (some station0)
    zones := tset (tset (tfill 12 none) 0 (some { vent0 with holdLimit := limit, law := .vent (some 1) 50 140 none 0 0 }))
      1 (some { light1 with holdLimit := 500 })
    channels := tset (tset (tset (tset (tset (tset (tset (tset (tfill 32 none) 0 (ch 0 0 200)) 1 (ch 0 0 200)) 2
      (ch 1 0 200)) 3 (ch 1 1 400)) 4 (ch 2 0 200)) 5 (ch 2 0 200)) 6 (ch 2 1 300)) 7 (ch 3 1 300) }

/-- R15, R18, worked example 1.9: check 4 fails at station 0 with 300 and passes with 400; the derived values. -/
theorem test_plan_check_example :
    firstFailure (example19 300) = some (4, 0) ∧ firstFailure (example19 400) = none ∧
      (let d := derive_ (example19 400)
       [tget d.bound 0, tget d.bound 1, tget d.bound 2, tget d.bound 3] = [[0, 1], [2, 3], [4, 5, 6], [7]] ∧
       (tget d.total 0, tget d.count 0, tget d.total 1, tget d.count 1) = (1000, 5, 1000, 3) ∧
       [tget (tget d.cap 0) 0, tget (tget d.cap 1) 0, tget (tget d.cap 1) 1, tget (tget d.cap 2) 0,
        tget (tget d.cap 2) 1, tget (tget d.cap 3) 1] = [400, 200, 400, 400, 300, 300]) := by decide +kernel

/-- Inputs 0, 1 and 2 with filtered values, some of them valid. -/
def withReadings (l c e : Nat) (cValid eValid : Bool) (s : State) : State :=
  let rec_ (y : Nat) (v : Bool) : InputRec :=
    { InputRec.fresh with value := some y, filtered := some y, valid := v, seedPending := !v, ageFrom := some 0 }
  { s with scan := { s.scan with
      inputs := tset (tset (tset s.scan.inputs 0 (rec_ l true)) 1 (rec_ c cValid)) 2 (rec_ e eValid) } }

/-- R112 to R115: the demands of the examples. -/
theorem test_demand_examples :
    demandOf (withReadings 4000 83 4100 true true planned) light1 = 800 ∧
      demandOf (withReadings 3333 83 4100 true true planned) light1 = 667 ∧
      demandOf (withReadings 4000 83 4100 true true planned) vent0 = 367 ∧
      demandOf (withReadings 4000 50 4100 true true planned) vent0 = 275 ∧
      demandOf (withReadings 4000 83 4100 true false planned) vent0 = 600 ∧
      demandOf (withReadings 4000 150 4100 true false planned) vent0 = 1000 := by decide +kernel

/-- The Time Base FINE with P 16,000,200 and eight samples, at the pulse that began second 43,300 of day 812. -/
def losingMark : State :=
  { State.reset with time := { TimeBase.fresh with
      state := .fine, last := some (0, .pulse), samples := List.replicate 8 16000200, rateP := 16000200
      day := some 812, second := some 43300, watchdog := some 32000000 } }

/-- R160, R164 to R166, worked example 'losing and regaining the second mark': holdover starts with one second credited,
and the generated seconds last the P of the eight samples. -/
theorem test_holdover_start_example :
    (after .markWatchdogExpiry losingMark).map (fun t => (t.time.state, t.time.second, t.time.last)) =
        some (.holdover, some 43301, some (16000200, .generated)) ∧
      (after .markWatchdogExpiry losingMark).map (fun t => (t.time.nextGenerated, microPart t, t.time.rateP)) =
        some (some 32000400, 999975, 16000200) := by decide +kernel

/-- R167, the same example: the pulse returns 3,200,000 ticks after the generated boundary of second 43,305. -/
theorem test_pulse_returned_example :
    let s := { losingMark with
      now := 80001000
      time := { losingMark.time with
        state := .holdover, last := some (80001000, .generated), second := some 43305, watchdog := none
        holdover := some 14432000000, nextGenerated := some 96001200 } }
    microPart (advance 3200000 s) = 199997 ∧
      (after (.secondMarkPulse 3200000) s).map (fun t => (t.time.state, t.time.second, t.time.last)) =
        some (.coarse, some 43305, some (83201000, .pulse)) ∧
      (after (.secondMarkPulse 3200000) s).map (fun t => (t.time.nextGenerated, t.time.samples, t.time.rateP)) =
        some (none, [], 16000000) := by decide +kernel

/-! ### States that meet the hypotheses of the statements -/

theorem met_IdleStepWaitsOrQueuesAnEvent :
    (State.reset.pending = [] ∧ dueEvents State.reset = []) ∧
      (let s := { State.reset with now := 1600000 }
       s.pending = [] ∧ (dueEvents s).length = 1) ∧
      (let s := { State.reset with now := 16000000 }
       s.pending = [] ∧ 2 ≤ (dueEvents s).length) := by decide +kernel

/-- R47, R93, R107, R123: the last tick before an event is due, and the tick at which it is due. -/
theorem test_due_at_the_deglitch_times :
    (let s k := { State.reset with
       pins := { State.reset.pins with ready := tset State.reset.pins.ready 3 true }
       lane := { State.reset.lane with readyCount := tset State.reset.lane.readyCount 3 k } }
     Instr.readyRise 3 ∉ dueEvents (s 319999) ∧ Instr.readyRise 3 ∈ dueEvents (s 320000)) ∧
      (let s k := { State.reset with
         pins := { State.reset.pins with incident := true }
         inc := { State.reset.inc with lineCount := k } }
       Instr.incidentLineChange ∉ dueEvents (s 799999) ∧ Instr.incidentLineChange ∈ dueEvents (s 800000)) ∧
      (let s k := { withChannel 0 { Channel.fresh with overloadProgress := k } planned with
         pins := { planned.pins with loadCurrent := tset planned.pins.loadCurrent 0 201 } }
       Instr.overloadLatched 0 ∉ dueEvents (s 159999) ∧ Instr.overloadLatched 0 ∈ dueEvents (s 160000)) ∧
      (let s k := { State.reset with
         now := k
         scan := { State.reset.scan with
           inputs := tset State.reset.scan.inputs 2 { InputRec.fresh with valid := true, ageFrom := some 0 } } }
       Instr.inputStale 2 ∉ dueEvents (s 48000000) ∧ Instr.inputStale 2 ∈ dueEvents (s 48000001)) := by
  decide +kernel

/-- The link with a reply being sent. -/
def replying (s : State) : State :=
  { s with link := { s.link with tx := .reply, slot := some { kind := 0xA4, tag := 1, status := .ok, items := .queue [] } } }

theorem met_FullResetsReturnEveryBlock :
    let s := { replying planned with link := { (replying planned).link with resetPending := true } }
    s.link.tx = .reply ∧ s.link.resetPending = true := by decide

/-- The link with a number of frames waiting behind a reply. -/
def waiting (k : Nat) : State :=
  { replying State.reset with
    link := { (replying State.reset).link with queue := List.replicate k { kind := 0x24, tag := 2, body := [] } } }

theorem met_HostFramesAreCountedOrQueued :
    ((List.replicate 512 (0 : Byte)).length ≤ 512) ∧
      (let f := { hostFrame 0x24 [] with crc := 0 }
       f.parityError = false ∧ f.framingError = false ∧ crc (hostCovered f.kind f.tag f.body) ≠ f.crc) ∧
      (goodHostFrame (hostFrame 0x24 []) ∧ (waiting 0).link.queue.length < 4 ∧ (waiting 0).link.slot ≠ none) ∧
      ((waiting 3).link.queue.length < 4 ∧ (waiting 3).link.queue ≠ []) ∧ 4 ≤ (waiting 4).link.queue.length := by
  simp only [goodHostFrame]; decide +kernel

theorem met_HostFrameIsTheRequestOfItsKind :
    goodHostFrame (hostFrame 0x24 []) ∧ State.reset.link.rx = none ∧
      requestRow State.reset.pins 0x24 9 [] = some (.readQueue 9 []) ∧
      requestRow State.reset.pins 0x39 9 [] = some (.unknownKindRequest 0x39 9 []) ∧
      requestRow State.reset.pins 0x38 9 [1] = some (.resetFull 9) ∧ linkReady State.reset ∧
      (goodHostFrame (hostFrame 0x38 [2]) ∧ 2 ≤ (2 : Byte).toNat) ∧
      goodHostFrame (hostFrame 0x38 []) ∧ (hostFrame 0x38 []).body.length ≠ 1 := by
  simp only [goodHostFrame, linkReady]; decide +kernel

/-- The plan after power-on is in order. -/
theorem reset_planInv : PlanInv State.reset.plan := by
  constructor <;> simp [State.reset, tget, tfill]

theorem met_RefusedRequestChangesNothing :
    goodHostFrame (hostFrame 0x13 []) ∧ linkReady State.reset ∧ PlanInv State.reset.plan ∧
      statusAfter (.hostFrameTaken (hostFrame 0x13 [])) State.reset = some .wrongState := by
  refine ⟨?_, ?_, reset_planInv, ?_⟩
  · simp only [goodHostFrame]; decide +kernel
  · simp only [linkReady]; decide
  · decide +kernel

theorem met_HostCharactersMakeTheFrame :
    (List.replicate 512 (0 : Byte)).length ≤ 512 ∧ State.reset.link.rx = none ∧ State.reset.outbox = [] ∧
      State.reset.link.settled := by
  refine ⟨by rw [List.length_replicate], ?_⟩; simp only [HostLink.settled]; decide

/-- A host frame of which some characters have arrived. -/
def hostPart (chars : List Byte) : State :=
  { State.reset with
    link := { State.reset.link with
      rx := some { chars := chars, parityError := false, framingError := false, gapFrom := 0 } } }

theorem met_HostCharactersAndAbandonedFrames :
    State.reset.link.rx = none ∧ (hostPart []).link.rx ≠ none ∧
      ((hostPart [1]).link.rx.map (·.chars) = some [1] ∧ nat2 1 0 < 2) ∧
      ((hostPart [3]).link.rx.map (·.chars) = some [3] ∧ 514 < nat2 3 2) ∧
      (let s := { hostPart [1] with now := 320000 + 176 * 104 + 1 }
       s.link.rx.map (fun p => decide (320000 < s.now - 176 * s.link.divisor - p.gapFrom)) = some true) ∧
      (let s := { hostPart [1] with now := 320000 + 176 * 104 }
       s.link.rx.map (fun p => decide (s.now - 176 * s.link.divisor - p.gapFrom ≤ 320000)) = some true) ∧
      (2 ≤ nat2 2 0 ∧ nat2 2 2 ≤ 514) ∧
      ((hostPart [3, 0, 0x21, 9, 1]).link.rx.map (·.chars) = some [3, 0, 0x21, 9, 1] ∧
        [(0x21 : Byte), 9, 1].length ≤ nat2 3 0) ∧
      ((hostPart [3, 0, 0x21, 9, 1, 7]).link.rx.map (·.chars) = some (3 :: 0 :: 0x21 :: 9 :: ([1] ++ [7])) ∧
        nat2 3 0 = [(1 : Byte)].length + 2) := by
  decide +kernel

/-- The link sending a notice, with others waiting. -/
def noticing (slot : Option Reply) (rest : List Notice) : State :=
  { State.reset with
    link := { State.reset.link with tx := .notice (.incident true true false), slot := slot, notices := rest } }

theorem met_ReplyAndNoticeEnds :
    ((waiting 0).link.tx = .reply ∧ (waiting 0).link.resetPending = false ∧ (waiting 0).link.queue = []) ∧
      ((waiting 1).link.tx = .reply ∧ (waiting 1).link.resetPending = false ∧
        (waiting 1).link.queue = [{ kind := 0x24, tag := 2, body := [] }]) ∧
      ((noticing (waiting 0).link.slot []).link.slot ≠ none ∧ (noticing none []).outbox = []) ∧
      ((noticing none []).link.slot = none ∧ (noticing none []).link.notices = []) ∧
      (noticing none [.incident false false false]).link.notices = [.incident false false false] := by decide

theorem met_UnknownKindsAndBadLengths :
    linkReady State.reset ∧ (0x08 : Byte).toNat ∉ requestKinds ∧ (0x39 : Byte).toNat ∉ requestKinds ∧
      (let body : List Byte := [2, 0, 0]
       (∀ k ∈ [0, 17, 28, 21, 13, 2, 1, 6], (body.length == k) = false) ∧
         (decide (11 ≤ body.length) && body.length == 11 + 2 * (body.getD 10 0).toNat) = false ∧
         (decide (1 ≤ body.length) && body.length == 1 + 2 * (body.getD 0 0).toNat) = false) := by
  simp only [linkReady]; and_intros <;> decide

/-! #### The plan -/

theorem planned_ready : linkReady planned ∧ gateOpen planned := by simp only [linkReady, gateOpen]; decide +kernel

theorem drafted_ready : linkReady drafted ∧ gateOpen drafted := by simp only [linkReady, gateOpen]; decide +kernel

/-- Station 0 STRANDED in IDLE. -/
def strandedIdle : State := withStation0 { StationRec.fresh with state := .stranded } planned

theorem met_ClosedGateRefusesThePlanRequests :
    (linkReady (withCampaign .ended [] planned) ∧ (withCampaign .ended [] planned).adm.campaign ≠ .idle) ∧
      (linkReady strandedIdle ∧ strandedIdle.stationState 0 = some .stranded) ∧
      (readStationFields (stationBody 0 300 500 900 800 60 10 5 0 0)).isSome ∧
      (readZoneFields (zoneBody 0 0 1000 5 0 0 0 0 255 0 0 255 0 0)).isSome ∧
      (readChannelFields (channelBody 0 0 0 0 0 2 10)).isSome ∧
      (readSensorFields (sensorBody 0 0 0 0 0 0 0)).isSome := by simp only [linkReady]; decide +kernel

theorem met_PlanStationStoresTheRecord :
    linkReady planned ∧ gateOpen planned ∧
      [300, 113333, 113334, 299].map (fun rate =>
        (readStationFields (stationBody 15 rate 500 900 800 60 10 5 0 0)).map fun p =>
          (p.1, decide (300 ≤ p.2.bitRate ∧ p.2.bitRate ≤ 115200 ∧ divisorError p.2.bitRate ≤ 20000))) =
        [some (15, true), some (15, true), some (15, false), some (15, false)] ∧
      (readStationFields (stationBody 16 19200 500 900 800 60 10 5 0 0)).map (·.1) = some 16 := by
  refine ⟨planned_ready.1, planned_ready.2, ?_⟩; decide +kernel

/-- The zone, kind, law and thresholds that a body of PLAN_ZONE carries. -/
def zoneRead (b : List Byte) : Option (Nat × Nat × Nat × Nat × Nat × Nat) :=
  (readZoneFields b).map fun f => (f.zone, f.kind, f.law, f.co, f.coLow, f.coHigh)

theorem met_PlanZoneStoresOrRefuses :
    linkReady planned ∧ gateOpen planned ∧
      zoneRead (zoneBody 11 0 1000 5 0 0 0 0 255 0 0 255 0 0) = some (11, 0, 0, 255, 0, 0) ∧
      zoneRead (zoneBody 1 1 500 5 1 7 50 250 255 0 0 255 0 0) = some (1, 1, 1, 255, 0, 0) ∧
      zoneRead (zoneBody 0 0 500 5 2 0 0 0 1 480 600 255 0 0) = some (0, 0, 2, 1, 480, 600) ∧
      (min 500 480 < min 500 600 ∧ ∀ c p, planned.channelPlan c = some p → p.zone = 1 → p.incidentSense = .keep) ∧
      zoneRead (zoneBody 0 0 500 5 2 0 0 0 1 520 600 255 0 0) = some (0, 0, 2, 1, 520, 600) ∧
      min 500 600 ≤ min 500 520 ∧ zoneRead (zoneBody 12 0 500 5 0 0 0 0 255 0 0 255 0 0) = some (12, 0, 0, 255, 0, 0) := by
  refine ⟨planned_ready.1, planned_ready.2, ?_⟩
  refine ⟨by decide, by decide, by decide, ⟨by decide, ?_⟩, by decide, by decide, by decide⟩
  have h : ∀ c : Fin 32, (planned.channelPlan c).all (fun p => p.zone != 1 || p.incidentSense == .keep) = true := by
    decide +kernel
  intro c p hp hz
  have := h c
  rw [hp] at this
  simpa [hz] using this

theorem met_PlanChannelStoresTheRecord :
    linkReady planned ∧ gateOpen planned ∧
      (readChannelFields (channelBody 31 15 0 1000 1200 1 100)).map (fun f =>
        (f.channel, f.owner, f.zone, f.minLevel, f.maxLevel, f.deglitch)) = some (31, 15, 0, 1000, 1200, 100) ∧
      (planned.zonePlan 0).map (·.kind) = some .vent ∧
      (readChannelFields (channelBody 32 0 0 0 0 2 10)).map (·.channel) = some 32 ∧
      (readChannelFields (channelBody 0 0 1 0 0 0 10)).map (fun f => (f.incidentSense, f.zone)) = some (0, 1) ∧
      (planned.zonePlan 1).map (·.kind) = some .light ∧
      (readChannelFields (channelBody 0 0 0 0 0 2 30)).map (·.deglitch) = some 30 := by
  refine ⟨planned_ready.1, planned_ready.2, ?_⟩; decide +kernel

theorem met_PlanSensorStoresTheRecord :
    linkReady planned ∧ gateOpen planned ∧
      (readSensorFields (sensorBody 7 2 400 819 5000 0 600)).map (fun f => (f.input, f.kind, f.rawHi, f.valueHi)) =
        some (7, 2, 5000, 600) ∧
      (400 < 819 ∧ 819 < min 4095 5000 ∧ 0 < min 500 600) ∧
      (readSensorFields (sensorBody 0 0 9 9 9 9 9)).map (·.kind) = some 0 ∧
      (readSensorFields (sensorBody 8 1 400 819 4095 0 6000)).map (·.input) = some 8 ∧
      (readSensorFields (sensorBody 0 1 819 819 4095 0 6000)).map (fun f => (f.rawBroken, f.rawLo)) =
        some (819, 819) := by
  refine ⟨planned_ready.1, planned_ready.2, ?_⟩; decide +kernel

theorem met_PlanClearEmptiesThePlan : linkReady planned ∧ gateOpen planned ∧ planned.plan.state = .ready :=
  ⟨planned_ready.1, planned_ready.2, rfl⟩

/-- The drafted plan with its vent zone rewritten to a hold limit below its one station's capacity. -/
def failing : State :=
  { drafted with plan := { store with zones := tset store.zones 0 (some { vent0 with holdLimit := 999 }) } }

theorem met_PlanCheckDecides :
    (linkReady State.reset ∧ gateOpen State.reset ∧ State.reset.plan.state = .empty) ∧
      (linkReady failing ∧ gateOpen failing ∧ failing.plan.state ≠ .empty ∧
        firstFailure failing.plan = some (4, 0)) ∧
      linkReady drafted ∧ gateOpen drafted ∧ drafted.plan.state ≠ .empty ∧ firstFailure drafted.plan = none := by
  simp only [linkReady, gateOpen]; decide +kernel

theorem met_PlanCheckAndDerivedValues :
    firstFailure { store with channels := tfill 32 none } = some (1, 0) ∧ tget store.stations 0 ≠ none ∧
      (tget store.channels 1).map (·.zone) = some 1 ∧ tget store.zones 1 = some light1 := by decide +kernel

/-- The small plan is in order. -/
theorem planned_planInv : PlanInv planned.plan where
  stations := by
    have h : ∀ n, tget planned.plan.stations n = none ∨ tget planned.plan.stations n = some station0 := by decide +kernel
    intro n r hr
    rcases h n with e | e <;> rw [e] at hr <;> cases hr
    constructor <;> decide
  zones := by
    have h : ∀ z, tget planned.plan.zones z = none ∨ tget planned.plan.zones z = some vent0 ∨
        tget planned.plan.zones z = some light1 := by decide +kernel
    intro n r hr
    rcases h n with e | e | e <;> rw [e] at hr <;> cases hr <;> constructor <;> simp [LawInv, vent0, light1]
  channels := by
    have h : ∀ c, tget planned.plan.channels c = none ∨ tget planned.plan.channels c = some (channelOf 0 .reverse) ∨
        tget planned.plan.channels c = some (channelOf 1 .keep) := by decide +kernel
    intro n r hr
    rcases h n with e | e | e <;> rw [e] at hr <;> cases hr <;> constructor <;> simp [channelOf]
  sensors := by
    have h : ∀ i, tget planned.plan.sensors i = none ∨ tget planned.plan.sensors i = some (sensorOf .luminance 6000) ∨
        tget planned.plan.sensors i = some coSensor ∨ tget planned.plan.sensors i = some (sensorOf .extinction 9000) := by
      decide +kernel
    intro n r hr
    rcases h n with e | e | e | e <;> rw [e] at hr <;> cases hr <;> simp [SensorPlanInv, sensorOf, coSensor]
  held := fun h => absurd rfl h
  ready := fun _ => ⟨by decide +kernel, rfl⟩
  empty := fun h => nomatch h
  senses := by
    have h : ∀ c, (tget planned.plan.channels c).all (fun r => (tget planned.plan.zones r.zone).all fun z =>
        z.kind != .light || r.incidentSense == .keep) = true := by decide +kernel
    intro c r hr z hz hk
    have := h c
    rw [Option.mem_def.1 hr] at this
    simp only [Option.all_some, Option.mem_def.1 hz, hk] at this
    simpa using this

theorem met_ReadPlanAnswersTheSlot :
    linkReady planned ∧ PlanInv planned.plan ∧ planned.stationPlan 0 = some station0 ∧ planned.stationPlan 15 = none ∧
      planned.zonePlan 1 = some light1 ∧ planned.zonePlan 11 = none ∧
      planned.channelPlan 1 = some (channelOf 1 .keep) ∧ planned.channelPlan 31 = none ∧
      planned.sensorPlan 1 = some coSensor ∧ planned.sensorPlan 7 = none ∧ 4 ≤ (4 : Byte).toNat ∧
      16 ≤ (16 : Byte).toNat := by
  refine ⟨planned_ready.1, planned_planInv, ?_⟩; decide +kernel

theorem met_ReadsAnswerTheRecords :
    linkReady planned ∧ planned.zonePlan 0 = some vent0 ∧ planned.sensorPlan 1 = some coSensor ∧
      (planned.station 0 = some StationRec.fresh ∧
        (StationRec.fresh.state = .active ↔ ∃ l, (planned.laneRec l).station = some 0)) ∧
      (let s := inLane .boot StationRec.fresh
       s.link = planned.link ∧ s.station 0 = some { StationRec.fresh with state := .active } ∧
         (s.laneRec 0).station = some 0) ∧
      (16 ≤ (16 : Byte).toNat ∧ 12 ≤ (12 : Byte).toNat ∧ 32 ≤ (32 : Byte).toNat ∧ 4 ≤ (4 : Byte).toNat ∧
        8 ≤ (8 : Byte).toNat) ∧
      (let s := { planned with time := { TimeBase.fresh with
         state := .coarse, last := some (0, .pulse), day := some 5, second := some 100, watchdog := some 32000000 } }
       s.link = planned.link ∧ s.time.state ≠ .unset ∧ 0 < s.time.rateP) ∧
      planned.time.state = .unset ∧
      planned.station 15 = none ∧ planned.zonePlan 11 = none ∧ planned.sensorPlan 7 = none := by
  refine ⟨planned_ready.1, ?_⟩; decide +kernel

/-! #### The campaign -/

def openBody (start stop : Nat) (es : List Byte) : List Byte :=
  bytes4 start ++ bytes4 stop ++ [4, 2] ++ byteOf (es.length / 2) :: es

/-- The window and the entries that a body of CAMPAIGN_OPEN carries. -/
def openRead (b : List Byte) : Option (Nat × Nat × List (Nat × Nat)) :=
  (readOpen b).map fun p => (p.1.windowStart, p.1.windowEnd, p.2)

theorem met_CampaignOpenStartsOrRefuses :
    linkReady planned ∧ planned.adm.campaign = .idle ∧ planned.plan.state = .ready ∧
      openRead (openBody 0 86399 [0, 3]) = some (0, 86399, [((0 : Fin 16).val, (3 : Fin 4).val)]) ∧
      planned.station 0 = some StationRec.fresh ∧
      (drafted.plan.state ≠ .ready ∧ (withCampaign .ended [] planned).adm.campaign ≠ .idle) ∧
      openRead (openBody 0 86400 [0, 3]) = some (0, 86400, [(0, 3)]) ∧ openRead (openBody 0 0 []) = some (0, 0, []) ∧
      openRead (openBody 0 0 [0, 3, 16, 0]) = some (0, 0, [(0, 3)] ++ (16, 0) :: []) ∧
      openRead (openBody 0 0 [0, 3, 15, 0]) = some (0, 0, [(0, 3)] ++ (15, 0) :: []) ∧ planned.station 15 = none ∧
      openRead (openBody 0 0 [0, 3, 0, 0]) = some (0, 0, [(0, 3)] ++ (0, 0) :: []) ∧
      (withStation0 { StationRec.fresh with state := .done } planned).stationState 0 = some .done := by
  refine ⟨planned_ready.1, ?_⟩
  and_intros <;> decide

/-- A campaign RUNNING with station 0 QUEUED. -/
def queued : State := withStation0 { StationRec.fresh with state := .queued } (withCampaign .running [entry0] planned)

theorem met_CampaignAddAppendsEntries :
    (linkReady planned ∧ planned.adm.campaign ≠ .running ∧ planned.adm.campaign ≠ .halted) ∧
      readEntries [1, 0, 3] = some [((0 : Fin 16).val, (3 : Fin 4).val)] ∧
      (let s := withCampaign .halted [] planned
       linkReady s ∧ s.adm.campaign = .halted ∧ (∀ q ∈ s.adm.queue, q.station ≠ 0) ∧
         s.station 0 = some StationRec.fresh ∧ s.adm.queue.length + 1 ≤ 16) ∧
      (let s := withCampaign .running (List.replicate 16 { entry0 with station := 1 }) planned
       linkReady s ∧ (∀ q ∈ s.adm.queue, q.station ≠ 0) ∧ s.station 0 = some StationRec.fresh ∧
         16 < s.adm.queue.length + 1) ∧
      readEntries [0] = some [] ∧
      (readEntries (17 :: List.replicate 34 0)).map (fun es => decide (16 < es.length)) = some true ∧
      readEntries [2, 0, 3, 16, 0] = some ([(0, 3)] ++ (16, 0) :: []) ∧
      readEntries [2, 0, 3, 0, 4] = some ([(0, 3)] ++ (0, 4) :: []) ∧
      (readEntries [2, 0, 3, 15, 0] = some ([(0, 3)] ++ (15, 0) :: []) ∧ planned.station 15 = none) ∧
      readEntries [2, 0, 3, 0, 0] = some ([(0, 3)] ++ (0, 0) :: []) ∧
      (readEntries [1, 0, 3] = some ([] ++ (0, 3) :: []) ∧ (∃ q ∈ queued.adm.queue, q.station = 0) ∧
        (inLane .boot StationRec.fresh).stationState 0 = some .active) ∧
      (withStation0 { StationRec.fresh with state := .done } planned).stationState 0 = some .done := by
  simp only [linkReady]; and_intros <;> decide +kernel

/-- A campaign HALTED with station 0 STRANDED. -/
def stranded (q : List QueueEntry) : State :=
  withStation0 { StationRec.fresh with state := .stranded } (withCampaign .halted q planned)

theorem met_CampaignCancelRemovesTheEntry :
    (linkReady planned ∧ planned.station 0 = some StationRec.fresh ∧ planned.adm.campaign ≠ .running ∧
      planned.adm.campaign ≠ .halted ∧ 16 ≤ (16 : Byte).toNat ∧ planned.station 15 = none) ∧
      (linkReady queued ∧ queued.station 0 = some { StationRec.fresh with state := .queued } ∧
        queued.adm.campaign = .running ∧ queued.adm.queue = [] ++ entry0 :: [] ∧ entry0.station = 0) ∧
      (let s := stranded [{ entry0 with preCaptured := true }]
       linkReady s ∧ s.adm.campaign = .halted ∧ s.adm.queue = [] ++ { entry0 with preCaptured := true } :: []) ∧
      (stranded []).adm.campaign = .halted ∧ ∀ q ∈ (stranded []).adm.queue, q.station ≠ 0 := by
  simp only [linkReady]; and_intros <;> decide +kernel

theorem met_CampaignHaltResumeAndClose :
    (linkReady queued ∧ queued.adm.campaign = .running) ∧
      (let s := withCampaign .halted [entry0] planned
       linkReady s ∧ s.adm.campaign = .halted ∧ s.time.state = .unset) ∧
      (let s := withCampaign .halted [] planned
       linkReady s ∧ s.adm.campaign = .halted ∧ s.adm.queue = []) ∧
      (let s := withCampaign .ended [] planned
       linkReady s ∧ s.adm.campaign = .ended) ∧
      linkReady planned ∧ planned.adm.campaign = .idle := by simp only [linkReady]; and_intros <;> decide +kernel

theorem met_CampaignAbortEmptiesTheQueue :
    (linkReady planned ∧ planned.adm.campaign ≠ .running ∧ planned.adm.campaign ≠ .halted) ∧
      (linkReady queued ∧ queued.adm.campaign = .running ∧ (queued.adm.queue.map (·.station)).Nodup ∧
        (∀ l, (queued.laneRec l).stage ≠ .capture) ∧ (queued.station 0).isSome ∧ queued.station 15 = none) ∧
      (let s := withPort0 (talking .freeze) (inLane .capture StationRec.fresh)
       linkReady s ∧ s.adm.campaign = .halted ∧ (s.adm.queue.map (·.station)).Nodup ∧
         (s.laneRec 0).stage = .capture ∧ (s.laneRec 0).station = some 0 ∧ (s.port 0).faulted = false ∧
         (∀ l, (s.laneRec l).stage = .capture → ∃ n, (s.laneRec l).station = some n ∧ (s.port n).faulted = false ∧
           s.laneOf n = some l ∧ s.station n ≠ none ∧ ∀ q ∈ s.adm.queue, q.station ≠ n) ∧
         ∀ l, (s.laneRec l).stage = .capture → (s.laneRec l).station ≠ some 1) := by
  simp only [linkReady]; and_intros <;> decide +kernel

theorem met_StationRetryQueuesTheStation :
    linkReady (stranded []) ∧ (16 ≤ (16 : Byte).toNat ∧ 4 ≤ (4 : Byte).toNat) ∧ (3 : Byte).toNat = (3 : Fin 4).val ∧
      (stranded []).station 15 = none ∧ (stranded []).stationState 0 = some .stranded ∧
      (stranded []).adm.campaign = .halted ∧ (∀ q ∈ (stranded []).adm.queue, q.station ≠ 0) ∧
      (linkReady (stranded [entry0]) ∧ ∃ q ∈ (stranded [entry0]).adm.queue, q.station = 0) ∧
      (strandedIdle.adm.campaign = .idle ∧ (queued.adm.campaign = .running ∧ queued.stationState 0 = some .queued)) := by
  simp only [linkReady]; and_intros <;> decide +kernel

theorem met_StationReleaseFreesTheStation :
    (linkReady planned ∧ planned.station 0 = some StationRec.fresh ∧ StationRec.fresh.state ≠ .stranded) ∧
      (linkReady (stranded []) ∧ (stranded []).stationState 0 = some .stranded ∧
        ∀ q ∈ (stranded []).adm.queue, q.station ≠ 0) ∧
      (linkReady (stranded [entry0]) ∧ ∃ q ∈ (stranded [entry0]).adm.queue, q.station = 0) ∧
      16 ≤ (16 : Byte).toNat ∧ (15 : Byte).toNat = (15 : Fin 16).val ∧ planned.station 15 = none := by
  simp only [linkReady]; and_intros <;> decide +kernel

/-- Time kept, COARSE, at the second of day 100. -/
def keepingTime (s : State) : State :=
  { s with time := { TimeBase.fresh with
      state := .coarse, last := some (0, .pulse), day := some 5, second := some 100, watchdog := some 32000000 } }

theorem met_PassGateAndCampaignEnd :
    (passGate (keepingTime queued) = true ∧ queued.inc.toAdmission = [] ∧ passGate queued = false) ∧
      (let i (adm lanes : List Bool) : IncidentInput :=
         { queued.inc with hostFlag := true, toAdmission := adm, toLanes := lanes }
       ((i [true] [true]).toAdmission = true :: [] ∧ gateCondition (i [true] [true]) = false) ∧
         (gateCondition (i [false] [false]) = true) ∧
         ((i [true] []).toLanes.length < (i [true] []).toAdmission.length ∧ gateCondition (i [true] []) = true) ∧
         gateCondition (i [true, false, true] [false, true]) = true) ∧
      (let s := withCampaign .aborting [] planned
       s.adm.queue = [] ∧ (∀ l, (s.laneRec l).stage = .free) ∧ s.adm.campaign = .aborting) ∧
      queued.adm.queue ≠ [] := by decide +kernel

/-- The zones' hold limits lowered so that the station's capacity does not fit. -/
def covered : State :=
  { keepingTime queued with plan := { queued.plan with zones := tset queued.plan.zones 0 (some { vent0 with holdLimit := 999 }) } }

/-- Three stations: 0 and 2 in zone 0, whose hold limit admits one of them, and 1 in zone 1. Station 2 holds its channel;
0 is ranked above 1, and both wait. -/
def paired (lanesInUse : Nat) : State :=
  let p : PlanStore := { store with
    state := .ready
    stations := tset (tset (tset (tfill 16 none) 0 (some station0)) 1 (some station0)) 2 (some station0)
    zones := tset store.zones 0 (some { vent0 with holdLimit := 500 })
    channels := tset (tset (tset (tfill 32 none) 0 (some (channelOf 0 .keep))) 1
      (some { channelOf 1 .keep with owner := 1 })) 2 (some { channelOf 0 .keep with owner := 2 }) }
  let s := withLane0 { Lane.fresh with stage := .boot, station := some 2 } (keepingTime queued)
  { s with
    plan := { p with derived := some (derive_ p) }
    adm := { s.adm with
      queue := [{ entry0 with station := 1, cls := 1 }, entry0]
      params := some { windowStart := 0, windowEnd := 0, lanesInUse := lanesInUse, passOverLimit := 2 }
      stations := tset (tset s.adm.stations 1 (some { StationRec.fresh with state := .queued })) 2
        (some { StationRec.fresh with state := .active })
      reserved := tset (tfill 32 false) 2 true } }

theorem met_PassAdmitsUnderTheCoverTest :
    (let s := keepingTime queued
     passGate s = true ∧ condition s.inc = false ∧ s.adm.queue = [entry0] ∧ entry0.preCaptured = false ∧
       s.stationState 0 = some .queued ∧ (s.port 0).faulted = false ∧ (s.port 0).sending = none ∧
       s.adm.params.map (·.lanesInUse) = some 4 ∧ (s.laneRec 0).stage = .free ∧
       (∀ z, s.touches 0 z = true → tget s.adm.settle z = none) ∧
       ∀ z, 0 < s.cap 0 z →
         1000 * (reservedCapacity s z + s.cap 0 z) ≤ ((s.zonePlan z).map (·.holdLimit)).getD 0 * s.total z) ∧
      (passGate covered = true ∧ covered.adm.queue = [entry0] ∧
        ∃ z, 0 < covered.cap 0 z ∧ ((covered.zonePlan z).map (·.holdLimit)).getD 0 * covered.total z <
          1000 * (reservedCapacity covered z + covered.cap 0 z)) ∧
      (((withPort0 { talking .freeze with faulted := true } queued).port 0).faulted = true ∧
        (queued.port 0).faulted = false ∧ queued.touches 0 0 = true ∧
        tget { queued with adm := { queued.adm with settle := tset (tfill 12 none) 0 (some 9) } }.adm.settle 0 ≠ none) ∧
      (let s := paired 4
       let t := { s with adm := { s.adm with queue := [{ entry0 with pinned := true }] } }
       (∃ q ∈ t.adm.queue, q.pinned = true ∧ q.station ∈ [(0 : Fin 16)] ∧
         ∃ z, t.touches q.station z = true ∧ t.touches 2 z = true)) := by decide +kernel

/-- A pass over `paired` admits the lower entry alone; with its one lane filled, or with the lower entry's channel
reserved too, it admits nobody. -/
theorem met_PassAdmits_several :
    (let s := paired 4
     let y : QueueEntry := { entry0 with station := 1, cls := 1 }
     passGate s = true ∧ condition s.inc = false ∧ (s.adm.queue.map (·.station)).Nodup ∧
       (rankOrder s.adm.queue).getLast? = some y ∧ (s.station 1).isSome ∧ s.stationPlan 1 = some station0 ∧
       s.adm.params.map (·.lanesInUse) = some 4 ∧ (s.laneRec 1).stage = .free ∧
       (∀ k < (1 : Fin 4), (s.laneRec k).stage ≠ .free) ∧ (∀ k, (s.laneRec k).station ≠ some 1) ∧
       (∀ e ∈ s.adm.queue, e.station ≠ 1 → entryTest s (rankedAbove s.adm.queue e.station) e ≠ none) ∧
       entryTest s (rankedAbove s.adm.queue 1) y = none) ∧
      (let s := { paired 4 with adm := { (paired 4).adm with settle := tset (tfill 12 none) 1 (some 9) } }
       passGate s = true ∧ (s.adm.queue.map (·.station)).Nodup ∧
         (∀ e ∈ s.adm.queue, entryTest s (rankedAbove s.adm.queue e.station) e ≠ none) ∧ (s.laneRec 1).stage = .free) ∧
      (let s := { paired 1 with adm := { (paired 1).adm with settle := tset (tfill 12 none) 1 (some 9) } }
       passGate s = true ∧ s.adm.params.map (·.lanesInUse) = some 1 ∧
         ∀ l : Fin 4, l.val < 1 → (s.laneRec l).stage ≠ .free) := by decide +kernel

/-- The three stations of `paired` waiting, with nothing reserved and lanes 0 and 1 free. -/
def threeWaiting : State :=
  let s := withLane0 Lane.fresh (paired 2)
  { s with adm := { s.adm with
      queue := [{ entry0 with station := 1, cls := 0 }, { entry0 with station := 2, cls := 1 }, entry0]
      stations := tset s.adm.stations 2 (some { StationRec.fresh with state := .queued })
      reserved := tfill 32 false } }

/-- The state after the pass over `threeWaiting` has admitted station 0. -/
def oneAdmitted : State :=
  admits 0 entry0 station0 { StationRec.fresh with state := .queued } { threeWaiting with
    adm := { threeWaiting.adm with queue := overtakes threeWaiting 0 [] 2 } }

/-- A pass that goes on after an admission: station 2 fails the cover test on the reservation just made, and station 1,
below it, is admitted to lane 1. -/
theorem met_PassAdmits_goes_on :
    (let s := threeWaiting
     let e2 : QueueEntry := { entry0 with station := 2, cls := 1 }
     let e1 : QueueEntry := { entry0 with station := 1, cls := 0 }
     passGate s = true ∧ condition s.inc = false ∧ s.adm.params.map (·.lanesInUse) = some 2 ∧
       (s.adm.queue.map (·.station)).Nodup ∧ rankOrder s.adm.queue = [] ++ entry0 :: [e2] ++ e1 :: [] ∧
       s.station 0 = some { StationRec.fresh with state := .queued } ∧ s.stationPlan 0 = some station0 ∧
       (s.station 1).isSome ∧ s.stationPlan 1 = some station0 ∧
       (∀ k ≤ (1 : Fin 4), (s.laneRec k).stage = .free ↔ k = 0 ∨ k = 1) ∧
       (∀ k, (s.laneRec k).station ≠ some 0 ∧ (s.laneRec k).station ≠ some 1) ∧
       entryTest s (rankedAbove s.adm.queue 0) entry0 = none ∧
       entryTest oneAdmitted (rankedAbove oneAdmitted.adm.queue 2) e2 = some .cover ∧
       entryTest s (rankedAbove s.adm.queue 2) e2 = none ∧
       entryTest oneAdmitted (rankedAbove oneAdmitted.adm.queue 1) e1 = none) := by decide +kernel

/-- A pass whatever it admits: with the condition inactive, and with a change to active that neither the Admission Unit
nor the Lane Controller has taken. -/
theorem met_PassAdmits_runs :
    (let s := threeWaiting
     passGate s = true ∧ s.adm.params.map (·.passOverLimit) = some 2 ∧ (s.adm.queue.map (·.station)).Nodup ∧
       ∀ e ∈ s.adm.queue, s.station e.station ≠ none ∧ s.stationPlan e.station ≠ none ∧
         ∀ k, (s.laneRec k).station ≠ some e.station) ∧
      (let s := { threeWaiting with
         inc := { threeWaiting.inc with line := true, toAdmission := [true], toLanes := [true], toChannels := [true] } }
       passGate s = true ∧ (s.inc.line || s.inc.hostFlag) = true) := by decide +kernel

/-- R39: with one lane in use, a pass that admits the highest-ranked entry leaves the others as they are. -/
theorem test_pass_leaves_untested_entries :
    let s := { threeWaiting with adm := { threeWaiting.adm with
      params := some { windowStart := 0, windowEnd := 0, lanesInUse := 1, passOverLimit := 2 }
      queue := [{ entry0 with station := 2, cls := 1, block := .settle }, entry0] } }
    (callPass s).adm.queue = [{ entry0 with station := 2, cls := 1, block := .settle }] := by decide +kernel

/-! #### The sensor scan -/

def withScan (m : ScanMode) (tr : Trigger) (single : Fin 8) (s : State) : State :=
  { s with scan := { s.scan with
      config := { mode := m, trigger := tr, period := 1000, count := 8, single := single }, timer := none } }

/-- A conversion of an input in progress. -/
def converting (i : Fin 8) (s : State) : State :=
  { s with scan := { s.scan with scanning := true, index := i, conversionEnd := some 32000 } }

/-- The fields that a body of SCAN_CONFIG carries. -/
def scanRead (b : List Byte) : Option (Nat × Nat × Nat × Nat × Nat) :=
  (readScanFields b).map fun f => (f.mode, f.trigger, f.period, f.count, f.single)

theorem met_ScanRequestsConfigureAndStart :
    linkReady planned ∧ scanRead [2, 1, 100, 0, 0, 7] = some (2, 1, 100, 0, 7) ∧
      scanRead [2, 0, 100, 0, 8, 7] = some (2, 0, 100, 8, 7) ∧ scanRead [3, 1, 100, 0, 8, 7] = some (3, 1, 100, 8, 7) ∧
      scanRead [2, 1, 100, 0, 8, 8] = some (2, 1, 100, 8, 8) ∧
      (planned.scan.scanning = false ∧ planned.scan.config.mode = .cyclic) ∧
      (converting 1 (withScan .sequence .request 0 planned)).scan.scanning = true ∧
      (let s := withScan .single .request 7 planned
       s.scan.config.mode = .single ∧ s.sensorPlan s.scan.config.single = none) ∧
      (let s := withScan .single .request 1 planned
       (s.sensorPlan s.scan.config.single).map (·.kind) = some .co) ∧
      (withScan .sequence .request 0 planned).scan.config.mode = .sequence := by
  refine ⟨planned_ready.1, ?_⟩
  and_intros <;> decide

theorem met_ScanEventsConvertTheInputs :
    (State.reset.scan.timer = some 16000000 ∧ State.reset.scan.scanning = false) ∧
      (let s := converting 1 planned
       s.scan.scanning = true ∧ s.scan.conversionEnd = some 32000 ∧ s.scan.discard = false ∧
         s.sensorPlan 1 = some coSensor ∧ (399#12).toNat < coSensor.rawBroken ∧ coSensor.rawBroken ≤ (400#12).toNat ∧
         (s.input 1).seedPending = true ∧ s.scan.config.mode ≠ .single) ∧
      (let s := withReadings 0 150 0 true true (converting 1 planned)
       (s.input 1).seedPending = false ∧ (s.input 1).filtered = some 150 ∧ (s.input 1).valid = true ∧
         (s.input 1).ageFrom = some 0) ∧
      ((converting 7 planned).sensorPlan 7 = none ∧
        (converting 1 (withScan .single .request 1 planned)).scan.config.mode = .single) ∧
      (withScan .single .request 1 planned).scan.timer = none ∧ (State.reset.input 0).valid = false := by decide +kernel

theorem met_SensorAndDemandFormulas :
    (coSensor.rawLo < coSensor.rawHi ∧ coSensor.valueLo < coSensor.valueHi ∧ coSensor.rawLo ≤ 819 ∧
      coSensor.rawHi ≤ 4095) ∧
      (let s := withReadings 4000 140 4100 true false planned
       (s.input 0).valid = true ∧ (s.input 0).filtered = some 4000 ∧ light1.law = .light 0 50 250 ∧
         (s.input 1).valid = true ∧ (s.input 1).filtered = some 140 ∧ (s.input 2).valid = false ∧
         vent0.law = .vent (some 1) 50 140 (some 2) 3000 7000) ∧
      (let s := withReadings 4000 83 4100 true true planned
       (s.input 1).valid = true ∧ (s.input 2).valid = true) ∧ 50 < 140 ∧ 3000 < 7000 := by decide +kernel

/-! #### The Time Base and single blocks -/

theorem met_TimeMarkAndSingleBlockRequests :
    linkReady planned ∧ readMark (bytes2 65535 ++ bytes4 86400) = some (65535, 86400) ∧
      readMark (bytes2 65535 ++ bytes4 86399) = some (65535, 86399) ∧
      (let s := withChannel 0 { Channel.fresh with overload := true } planned
       linkReady s ∧ (s.channel 0).overload = true ∧ (s.channelPlan 0).map (·.threshold) = some .low ∧ 200 < 201 ∧
         ¬200 < 200) ∧
      (planned.channel 0).overload = false ∧
      (linkReady (withPort0 (talking .freeze) planned) ∧ ((withPort0 (talking .freeze) planned).port 0).dialogue ≠ none) ∧
      ((planned.port 0).dialogue = none ∧ planned.adm.queue = []) ∧ 128 ≤ (128 : Byte).toNat ∧
      32 ≤ (32 : Byte).toNat ∧ 16 ≤ (16 : Byte).toNat ∧
      (127 : Byte).toNat < 128 := by simp only [linkReady]; decide +kernel

/-- The Time Base record after power-on is in order. -/
theorem fresh_timeInv : TimeInv TimeBase.fresh := by
  constructor <;> simp [TimeBase.fresh]

/-- The Time Base record of `keepingTime` is in order. -/
theorem kept_timeInv : TimeInv (keepingTime planned).time := by
  constructor <;> simp [keepingTime, TimeBase.fresh]

/-- A Time Base in HOLDOVER. -/
def holding : TimeBase :=
  { TimeBase.fresh with
    state := .holdover, last := some (0, .generated), day := some 5, second := some 86399
    holdover := some 14400000000, nextGenerated := some 16000000 }

theorem holding_timeInv : TimeInv holding := by constructor <;> simp [holding, TimeBase.fresh]

/-- A campaign RUNNING whose window opens with the next second, and a scan that waits for the second mark. -/
def beforeWindow : State :=
  let s := withScan .cyclic .mark 0 (keepingTime queued)
  { s with adm := { s.adm with
      params := some { windowStart := 101, windowEnd := 200, lanesInUse := 4, passOverLimit := 2 } } }

theorem met_secondHanded :
    (let s := beforeWindow
     TimeInv s.time ∧ s.adm.campaign = .running ∧ s.scan.config.trigger = .mark ∧ s.scan.config.mode = .cyclic ∧
       s.scan.scanning = false ∧
       secondCalls s.time { s with time := { s.time with second := some 101 } } ∧
       ¬secondCalls s.time { s with time := { s.time with second := some 99 } }) ∧
      secondCalls State.reset.time (keepingTime queued) := by
  refine ⟨⟨kept_timeInv, rfl, rfl, rfl, rfl, .inr ⟨_, 100, 101, rfl, rfl, rfl, ?_, ?_⟩, ?_⟩, .inl ⟨rfl, nofun⟩⟩
  · simp [inWindow]
  · simp [inWindow]
  · rintro (⟨h, -⟩ | ⟨p, a, b, hp, ha, hb, -, hw⟩)
    · cases h
    · cases hp; cases hb
      exact absurd (hw.1 (by decide)).1 (by decide)

theorem met_PulsesAreClassedAndTaken :
    TimeInv State.reset.time ∧ State.reset.time.last = none ∧ TimeInv (keepingTime planned).time ∧
      (let s := keepingTime planned
       s.time.state ≠ .holdover ∧ s.time.last = some (0, .pulse) ∧ (advance 15991999 s).now - 0 < 15992000 ∧
         15992000 ≤ (advance 15992000 s).now - 0 ∧ (advance 16008000 s).now - 0 ≤ 16008000 ∧
         16008000 < (advance 16008001 s).now - 0 ∧ s.adm.campaign ≠ .running ∧ s.scan.config.trigger ≠ .mark) ∧
      TimeInv holding ∧ holding.state = .holdover ∧ holding.last = some (0, .generated) := by
  refine ⟨fresh_timeInv, by decide, kept_timeInv, ?_, holding_timeInv, by decide, by decide⟩
  decide +kernel

theorem met_TimeExpiriesAreTaken :
    TimeInv (keepingTime planned).time ∧
      (let s := keepingTime planned
       s.time.watchdog = some 32000000 ∧ s.time.last = some (0, .pulse) ∧ s.time.day = some 5 ∧
         s.time.second = some 100) ∧
      TimeInv holding ∧ holding.nextGenerated = some 16000000 ∧ holding.day = some 5 ∧ holding.second = some 86399 ∧
      holding.holdover = some 14400000000 ∧
      (State.reset.time.watchdog = none ∧ State.reset.time.nextGenerated = none ∧ State.reset.time.holdover = none) := by
  refine ⟨kept_timeInv, by decide, holding_timeInv, ?_⟩; decide

/-! #### Incidents -/

theorem met_IncidentSourcesFormTheCondition :
    linkReady State.reset ∧ State.reset.outbox = [] ∧ State.reset.inc.hostFlag = false ∧
      { State.reset.inc with hostFlag := true }.hostFlag = true := by simp only [linkReady]; decide

/-- Changes of the condition that the three blocks have still to take. -/
def handed (v : Bool) (s : State) : State :=
  { s with inc := { s.inc with hostFlag := v, toAdmission := [v], toLanes := [v], toChannels := [v] } }

theorem met_AdmissionAndLanesTakeTheIncident :
    ((handed true planned).inc.toAdmission = true :: [] ∧ (handed false planned).inc.toAdmission = false :: [] ∧
      (handed false planned).inc.toLanes = false :: [] ∧ (handed false planned).adm.queue = []) ∧
      (let s := handed true (inLane .boot StationRec.fresh)
       s.inc.toLanes = true :: [] ∧ (s.laneRec 0).stage = .boot ∧
         ∀ l, (s.laneRec l).stage ∉ [.capture, .align, .matching]) ∧
      (let s := handed true (withPort0 (talking .freeze) (inLane .capture StationRec.fresh))
       s.inc.toLanes = true :: [] ∧ (s.laneRec 0).stage = .capture ∧ (s.laneRec 0).station = some 0 ∧
         (s.port 0).faulted = false ∧ (s.inc.line || s.inc.hostFlag) = true ∧
         (∀ l, (s.laneRec l).stage ∈ [.capture, .align, .matching] → ∃ n, (s.laneRec l).station = some n ∧
           s.laneOf n = some l ∧ s.station n ≠ none ∧ s.stationPlan n ≠ none ∧ ∀ q ∈ s.adm.queue, q.station ≠ n) ∧
         s.inc.toLanes.length ≤ s.inc.toAdmission.length) ∧
      (let s := handed true (inLane .matching StationRec.fresh)
       s.inc.toLanes = true :: [] ∧ (s.laneRec 0).stage = .matching ∧ (s.laneRec 0).station = some 0 ∧
         0 ∈ s.bound 0 ∧ (s.channel 0).mode = .hold ∧
         (s.channelPlan 0).map (fun p => decide (p.incidentLevel ≠ (s.channel 0).level)) = some true) := by
  decide +kernel

theorem met_ChannelsTakeTheIncident :
    (let s := handed true (inLane .boot StationRec.fresh)
     s.inc.toChannels = true :: [] ∧ (∀ l, (s.laneRec l).stage ≠ .prepare) ∧ s.channelPlan 2 = none ∧
       (s.channelPlan 1).isSome ∧ (s.channel 1).mode = .hold ∧ s.kind 1 ≠ some .vent ∧
       (s.channelPlan 0).map (·.incidentSense) = some .reverse ∧ s.kind 0 = some .vent ∧
       (s.channel 0).reversal = .none ∧ (s.channel 0).sense = .forward ∧ (s.channel 0).level ≠ 0) ∧
      (let s := withChannel 0 { drivenAt .hold with level := 0 } (handed true (inLane .boot StationRec.fresh))
       (s.channel 0).level = 0) ∧
      (let s := withChannel 0 { drivenAt .hold with reversal := .rundown, reversalSense := some .reverse }
         (handed true (inLane .boot StationRec.fresh))
       (s.channel 0).reversal ≠ .none ∧ (s.channel 0).reversalSense = some .reverse) := by decide +kernel

/-- Both channels of station 0 in INCIDENT, its lane in BOOT and its hold-grace timer EXPIRED or not. -/
def afterIncident (g : Grace) : State :=
  let s := withChannel 0 (drivenAt .incident) (withChannel 1 (drivenAt .incident)
    (handed false (inLane .boot StationRec.fresh)))
  { s with lane := { s.lane with grace := tset s.lane.grace 0 g } }

theorem met_ChannelsLeaveTheIncident :
    (let s := afterIncident .expired
     s.inc.toChannels = false :: [] ∧ (∀ l, (s.laneRec l).stage ≠ .prepare) ∧ (s.channel 0).mode = .incident ∧
       (s.channelPlan 0).map (·.owner) = some 0 ∧ s.stageOf 0 = some .boot ∧ s.grace 0 = .expired ∧
       s.lawOf 0 ≠ .none) ∧
      (afterIncident .notStarted).grace 0 ≠ .expired ∧ ((afterIncident .expired).channel 2).mode ≠ .incident := by
  decide +kernel

theorem met_ResetRequestsTakeTheirScope : linkReady (inLane .boot StationRec.fresh) := by
  simp only [linkReady]; decide +kernel

/-! #### Lanes, channels and ports -/

theorem met_SettlePointsAndHoldGraceExpire :
    (let s := { inLane .boot StationRec.fresh with
       adm := { (inLane .boot StationRec.fresh).adm with settle := tset (tfill 12 none) 0 (some 100) } }
     tget s.adm.settle 0 = some 100 ∧ tget s.adm.settle 1 = none ∧ s.adm.campaign ≠ .running) ∧
      (let s := afterIncident (.running 100)
       s.grace 0 = .running 100 ∧ s.stageOf 0 = some .boot ∧ s.grace 1 = .notStarted) ∧
      (let s := inLane .boot StationRec.fresh
       0 ∈ s.bound 0 ∧ (s.channel 0).mode = .hold ∧ (s.channelPlan 0).isSome ∧ s.lawOf 0 ≠ .none ∧
         s.zoneOf 0 = some 0 ∧ s.zonePlan 0 = some vent0 ∧ (s.zoneRec 0).trackCount = 0 ∧ 2 ∉ s.bound 0 ∧
         (s.bound 0).Pairwise (· < ·) ∧
         (enterNotes (fun c => decide (c ∈ s.bound 0 ∧ (s.channel c).mode = .hold ∧ s.lawOf c ≠ .none)) s).length = 2) ∧
      (inLane .align StationRec.fresh).stageOf 0 = some .align := by decide +kernel

theorem met_LaneTimersExpire :
    (let s := withPort0 { Port.fresh with rate := some 19200, divisor := some 52 } (inLane .restart StationRec.fresh)
     (s.laneRec 0).station = some 0 ∧ s.laneOf 0 = some 0 ∧ (s.laneRec 0).timer = some 100 ∧
       s.stationPlan 0 = some station0 ∧ (s.station 0).isSome ∧ (s.laneRec 0).stage = .restart ∧
       (s.laneRec 0).seenReadyLow = false) ∧
      (let s := withLane0 { Lane.fresh with stage := .restart, station := some 0, timer := some 100, seenReadyLow := true }
         (inLane .restart StationRec.fresh)
       (s.laneRec 0).seenReadyLow = true ∧ s.laneOf 0 = some 0 ∧
         tget { s with lane := { s.lane with ready := tset s.lane.ready 0 true } }.lane.ready 0 = true) ∧
      ((inLane .boot StationRec.fresh).laneRec 0).stage = .boot ∧
      ((inLane .matching StationRec.fresh).laneRec 0).stage = .matching ∧
      ((inLane .prepare StationRec.fresh).laneRec 0).stage ∉ [.restart, .boot, .matching] ∧
      ((inLane .restore { StationRec.fresh with checkpoint := some { modeByte := 1, bytes := [7, 8] } }).station 0).map
        (fun r => r.checkpoint.isSome) = some true := by and_intros <;> decide

theorem met_ReadyEdgesReachTheLane :
    (let s := withLane0 { Lane.fresh with stage := .boot, station := some 0, timer := some 100, seenReadyLow := true }
       (inLane .boot StationRec.fresh)
     s.stationPlan 0 = some station0 ∧ (s.station 0).isSome ∧ tget s.lane.ready 0 = false ∧ s.laneOf 0 = some 0 ∧
       (s.laneRec 0).stage = .boot ∧ (s.laneRec 0).seenReadyLow = true) ∧
      (planned.laneOf 0 = none ∧ tget planned.lane.ready 0 = false) ∧
      ((inLane .boot StationRec.fresh).laneRec 0).seenReadyLow = false ∧
      (let up (st : Stage) (k : Nat) : State :=
         { inLane st { StationRec.fresh with attempts := k } with
           lane := { (inLane st StationRec.fresh).lane with ready := tset (tfill 16 false) 0 true } }
       tget (up .boot 0).lane.ready 0 = true ∧ ((up .boot 0).laneRec 0).stage ∈ [.restart, .boot] ∧
         ((up .restore 0).laneRec 0).stage ∈ [.restore, .prepare, .align, .matching] ∧
         (up .restore 0).stationPlan 0 = some station0 ∧
         ((up .restore 0).station 0).map (fun r => decide (r.attempts < station0.retryLimit)) = some true ∧
         ((up .matching 1).station 0).map (fun r => decide (r.attempts < station0.retryLimit)) = some false ∧
         (up .release 0).laneOf 0 = some 0 ∧
         ((up .release 0).laneRec 0).stage ∈ [.free, .capture, .rollback, .release]) := by
  and_intros <;> decide

/-- Lane 0 in MATCH with two agreements, its channels measured at a level. -/
def measured (level : Nat) (c : CampaignState) : State :=
  let s := withLane0 { Lane.fresh with stage := .matching, station := some 0, matchCount := 2 }
    (inLane .matching StationRec.fresh)
  { s with
    adm := { s.adm with campaign := c }
    chan := { s.chan with
      channels := tmap (fun _ r => { r with observedLevel := level, observedSense := r.sense }) s.chan.channels } }

theorem met_MeasurementsReachTheLanesInMatch :
    (∀ l, (planned.laneRec l).stage ≠ .matching) ∧
      (let v := measured 420 .halted
       (v.laneRec 0).stage = .matching ∧ (v.laneRec 0).station = some 0 ∧ v.laneOf 0 = some 0 ∧
         v.stationPlan 0 = some station0 ∧ (v.station 0).isSome ∧ (∀ q ∈ v.adm.queue, q.station ≠ 0) ∧
         (∀ c ∈ v.bound 0, |((v.channel c).observedLevel : ℤ) - (v.channel c).level| ≤ station0.handbackTolerance ∧
           (v.kind c = some .vent → (v.channel c).observedSense = (v.channel c).sense)) ∧
         2 ≤ (v.laneRec 0).matchCount ∧ v.adm.campaign ≠ .running ∧ (v.port 0).faulted = false ∧
         v.touches 0 0 = true ∧ v.zonePlan 0 = some vent0 ∧ 0 < vent0.settleTime ∧
         ∀ k, k ≠ 0 → (v.laneRec k).stage ≠ .matching) ∧
      (∃ c ∈ (measured 421 .halted).bound 0,
        ¬|(((measured 421 .halted).channel c).observedLevel : ℤ) - ((measured 421 .halted).channel c).level| ≤
          station0.handbackTolerance) ∧
      (measured 420 .running).adm.campaign = .running ∧
      ((inLane .matching StationRec.fresh).laneRec 0).matchCount < 2 := by and_intros <;> decide +kernel

theorem met_RampStepsTheDrivenChannels :
    (let s := withChannel 0 { drivenAt .hold with level := 50, reversal := .rundown, reversalSense := some .reverse }
       (inLane .boot StationRec.fresh)
     (∀ l, (s.laneRec l).stage ≠ .prepare) ∧ s.channelPlan 2 = none ∧ (s.channelPlan 0).isSome ∧
       (s.channel 0).mode ≠ .follow ∧ (s.channel 0).reversal = .rundown ∧ max 0 ((s.channel 0).level - 50) = 0 ∧
       (s.channel 1).reversal = .none) ∧
      (let s := inLane .prepare StationRec.fresh
       (s.laneRec 0).stage = .prepare ∧ (∀ k, k ≠ 0 → (s.laneRec k).stage ≠ .prepare) ∧ preparesOnline s ∧
         (s.laneRec 0).station = some 0 ∧ s.laneOf 0 = some 0 ∧ (s.station 0).isSome ∧
         ∀ c ∈ s.bound 0, (s.channel c).target = some (s.channel c).level ∧ (s.channel c).reversal = .none) ∧
      (let s := withChannel 0 { drivenAt .hold with target := some 401 } (inLane .prepare StationRec.fresh)
       (s.laneRec 0).stage = .prepare ∧ preparesOnline s ∧
         ¬∀ c ∈ s.bound 0, (s.channel c).target = some (s.channel c).level ∧ (s.channel c).reversal = .none) := by
  simp only [preparesOnline]; and_intros <;> decide +kernel

/-- Channel 1 of the LIGHT zone in TRACK on a target, its input read. -/
def tracking (target luminance : Nat) : State :=
  let s := withReadings luminance 0 0 true true (withChannel 1 (drivenAt .track) (inLane .boot StationRec.fresh))
  { s with reg := { s.reg with
      zones := tset s.reg.zones 1 { ZoneRec.fresh with demand := some target, target := some target, trackCount := 1 } } }

theorem met_ZoneBoundaryRegulatesTheTracks :
    (∀ l, ((tracking 700 3600).laneRec l).stage ≠ .prepare) ∧ (tracking 700 3600).zonePlan 2 = none ∧
      (tracking 700 3600).zonePlan 1 = some light1 ∧ ((tracking 700 3600).zoneRec 1).trackCount ≠ 0 ∧
      light1.law ≠ .none ∧ ((tracking 700 3600).zoneRec 1).target = some 700 ∧
      demandOf (tracking 700 3600) light1 = 720 ∧ demandOf (tracking 700 3650) light1 = 730 ∧
      demandOf (tracking 980 5000) light1 = 1000 ∧ ((tracking 700 3600).zoneRec 0).trackCount = 0 := by
  and_intros <;> decide

theorem met_DwellsAndFaultFlags :
    (let s := withChannel 0 { drivenAt .hold with reversal := .dwell, reversalSense := some .reverse, dwellUntil := some 50 }
       (inLane .boot StationRec.fresh)
     (∀ l, (s.laneRec l).stage ≠ .prepare) ∧ (s.channel 0).reversal = .dwell ∧ (s.channel 0).dwellUntil = some 50 ∧
       (s.channel 1).reversal ≠ .dwell) ∧
      (planned.outbox = [] ∧ planned.channelPlan 0 ≠ none ∧ (planned.channel 0).overload = false ∧
        (planned.channelPlan 0).map (·.openDetect) = some true ∧ (planned.channel 0).openFlag = false ∧
        planned.channelPlan 2 = none) ∧
      (let s := withChannel 0 { Channel.fresh with overload := true, openFlag := true } planned
       s.outbox = [] ∧ (s.channel 0).overload = true ∧ (s.channel 0).openFlag = true) := by
  and_intros <;> decide

/-- A port whose reception has got as far as some characters. -/
def receiving (chars : List Byte) : Port :=
  { Port.fresh with rate := some 19200, divisor := some 52, rx := some { chars := chars, parityErrors := 0, framingErrors := 0, gapFrom := 0 } }

theorem met_FieldCharactersAndFramesAreCounted :
    ((planned.port 0).parity ≤ 255 ∧ (planned.port 0).framing ≤ 255 ∧
      ((planned.port 1).rate = none ∧ (planned.port 1).rx = none) ∧
      (planned.port 0).rate ≠ none ∧ (planned.port 0).rx = none) ∧
      (let s := { withPort0 (receiving [0]) planned with now := 320000 + 176 * 52 }
       (s.port 0).rate ≠ none ∧ (s.port 0).rx.map (fun p => decide (p.chars.length < 2 ∧
         s.now - 176 * (s.port 0).divisor.getD 0 - p.gapFrom ≤ 320000)) = some true) ∧
      (let s := { withPort0 (receiving [0]) planned with now := 320000 + 176 * 52 + 1 }
       (s.port 0).rx.map (fun p => decide (320000 < s.now - 176 * (s.port 0).divisor.getD 0 - p.gapFrom)) =
         some true) ∧
      ((planned.port 0).dialogue = none ∧ (fieldFrame 0x43 []).parityErrors = 0 ∧
        (fieldFrame 0x43 []).framingErrors = 0 ∧ (fieldFrame 0x43 []).body.length ≤ 250 ∧
        crc [0, 0x43, 0] = (fieldFrame 0x43 []).crc) ∧
      (let p : Port := { Port.fresh with rate := some 19200, lateRecord := some .release }
       (fieldFrame 0x43 []).station = byteOf (0 : Fin 16).val ∧ p.lateRecord = some .release ∧
         replyKindOf 0x43 = some .ack ∧ expects .release .ack = true ∧ expects .release .aligned = false) ∧
      ((talking .align).dialogue = some (dialogueOf .align) ∧ expects .align .ack = false) ∧
      (let s := withPort0 { talking .freeze with consecutive := 7 } (inLane .capture StationRec.fresh)
       (s.port 0).consecutive = 7 ∧ (s.port 0).faulted = false ∧ (s.port 0).dialogue = some (dialogueOf .freeze) ∧
         s.laneOf 0 = some 0 ∧ s.stationPlan 0 = some station0 ∧ (s.station 0).isSome ∧
         ∀ x ∈ s.adm.queue, x.station ≠ 0) ∧
      ((planned.port 0).consecutive < 7 ∧
        (withPort0 { talking .freeze with consecutive := 7 } planned).laneOf 0 = none) ∧
      (((receiving [0, 0x43]).rx.map (·.chars) = some [0, 0x43] ∧ (250 : Byte).toNat ≤ 250 ∧ 250 < (251 : Byte).toNat) ∧
        ((receiving [0, 0x43, 1, 5]).rx.map (·.chars) = some (0 :: 0x43 :: 1 :: [5]) ∧ [(5 : Byte)].length ≤ 1) ∧
        (receiving [0, 0x43, 0, 9]).rx.map (·.chars) = some (0 :: 0x43 :: 0 :: ([] ++ [9])) ∧
        (let r := crc [0, 0x43, 0]
         r = BitVec.ofNat 16 (nat2 (byteOf r.toNat) (byteOf (r.toNat / 256))) ∧
           r ≠ BitVec.ofNat 16 (nat2 (byteOf r.toNat) (byteOf (r.toNat / 256) + 1)))) ∧
      (¬{ fieldFrame 0x43 [] with parityErrors := 1 }.parityErrors = 0 ∧
        crc [0, 0x43, 0] ≠ { fieldFrame 0x43 [] with crc := (fieldFrame 0x43 []).crc + 1 }.crc) := by
  and_intros <;> decide +kernel

theorem met_FieldCharactersMakeTheFrame :
    (List.replicate 250 (0 : Byte)).length ≤ 250 ∧ (planned.port 0).rate ≠ none ∧ (planned.port 0).rx = none ∧
      planned.outbox = [] ∧ planned.link.settled := by
  refine ⟨by rw [List.length_replicate], ?_⟩; simp only [HostLink.settled]; decide +kernel

/-- A FROZEN of station 0: mode byte 1, both channels at 100 FORWARD, and a checkpoint of two bytes. -/
def frozenBody : List Byte := [1, 2, 100, 0, 0, 100, 0, 0, 2, 7, 8]

/-- Station 0 in CAPTURE with FREEZE outstanding. -/
def freezing : State :=
  withPort0 (talking .freeze) (withLane0 { Lane.fresh with stage := .capture, station := some 0 }
    (withChannel 0 Channel.fresh (withChannel 1 Channel.fresh (inLane .capture StationRec.fresh))))

theorem met_FrozenCapturesTheStation :
    (let s := freezing
     let f := fieldFrame 0x41 frozenBody
     ((s.port 0).rate ≠ none ∧ fieldFrameGood f = true ∧ f.body.length ≤ 250 ∧ f.station = byteOf (0 : Fin 16).val ∧
       f.kind = 0x41) ∧ ((s.port 0).dialogue = some (dialogueOf .freeze) ∧ (s.port 0).waiting = none ∧
       s.laneOf 0 = some 0 ∧ s.stationPlan 0 = some station0 ∧ (s.station 0).isSome ∧
       ∀ q ∈ s.adm.queue, q.station ≠ 0) ∧
       (frozenOf f.body).map (fun z => (z.entries, z.checkpoint)) = some ([(100, 0), (100, 0)], [7, 8]) ∧
       (s.bound 0).length = 2 ∧
       (∀ x ∈ s.bound 0, |(100 : ℤ) - (s.channel x).observedLevel| ≤ station0.captureTolerance ∧
         (s.channel x).observedSense = .forward)) ∧
      (fieldFrameGood (fieldFrame 0x41 [1, 2]) = true ∧ frozenOf [1, 2] = none) ∧
      (fieldFrameGood (fieldFrame 0x41 [1, 1, 100, 0, 0, 0]) = true ∧
        (frozenOf [1, 1, 100, 0, 0, 0]).map (fun z => decide (z.entries.length ≠ 2)) = some true) ∧
      (fieldFrameGood (fieldFrame 0x41 [1, 2, 101, 0, 0, 100, 0, 0, 0]) = true ∧
        (frozenOf [1, 2, 101, 0, 0, 100, 0, 0, 0]).map (·.entries) = some [(101, 0), (100, 0)] ∧
        ¬|(101 : ℤ) - (freezing.channel 0).observedLevel| ≤ station0.captureTolerance) ∧
      (let s := { freezing with inc := { freezing.inc with hostFlag := true } }
       (s.inc.line || s.inc.hostFlag) = true ∧ ∀ c ∈ s.bound 0, (s.channel c).mode ≠ .track) := by
  and_intros <;> decide +kernel

/-- Station 0 in a stage with a dialogue outstanding. -/
def asking (k : DialogueKind) (st : Stage) (x : Lane) : State :=
  withPort0 (talking k) (withLane0 { x with stage := st, station := some 0 } (inLane st StationRec.fresh))

/-- Every condition on the state for a reply that ends the dialogue. -/
def askingMeets (k : DialogueKind) (s : State) : Prop :=
  (s.port 0).rate ≠ none ∧ (s.port 0).dialogue = some (dialogueOf k) ∧ (s.port 0).waiting = none ∧
    s.laneOf 0 = some 0 ∧ s.stationPlan 0 = some station0 ∧ (s.station 0).isSome ∧ ∀ q ∈ s.adm.queue, q.station ≠ 0

theorem met_RepliesMoveTheLane :
    askingMeets .freeze (asking .freeze .capture Lane.fresh) ∧
      (askingMeets .thaw (asking .thaw .rollback { Lane.fresh with rollbackReason := some .incident }) ∧
        ((asking .thaw .rollback { Lane.fresh with rollbackReason := some .incident }).laneRec 0).rollbackReason =
          some .incident) ∧
      (askingMeets .restore (asking .restore .restore { Lane.fresh with mode := .warm }) ∧
        ((asking .restore .restore { Lane.fresh with mode := .warm }).laneRec 0).mode = .warm) ∧
      (askingMeets .restore (asking .restore .restore Lane.fresh) ∧
        ((asking .restore .restore Lane.fresh).laneRec 0).mode = .cold) ∧
      askingMeets .align (asking .align .align Lane.fresh) ∧
      askingMeets .release (asking .release .release { Lane.fresh with releaseSends := 1 }) ∧
      (∀ e ∈ [(DialogueKind.freeze, (0x42 : Byte)), (.thaw, 0x43), (.restore, 0x44), (.restore, 0x45), (.align, 0x46),
          (.align, 0x42), (.release, 0x43)], ∀ body ∈ ([[], [9]] : List (List Byte)),
        fieldFrameGood (fieldFrame e.2 body) = true ∧ (fieldFrame e.2 body).kind = e.2 ∧
          (replyKindOf e.2).map (expects e.1) = some true) ∧
      (withPort0 (talking .freeze) planned).laneOf 0 = none := by
  simp only [askingMeets]; and_intros <;> decide +kernel

theorem met_FramesSentAndDialogueTimeouts :
    (let p : Port := { talking .freeze with
       sending := some { bytes := [1], bitTicks := 832, doneAt := 50 }
       dialogue := some { kind := .freeze, body := [], transmit := .sending, timer := none } }
     p.dialogue.isSome ∧ p.sending.isSome ∧ p.waiting = none ∧ p.dialogue.map (·.transmit) = some .sending) ∧
      (let p : Port := { talking .freeze with
         sending := some { bytes := [1], bitTicks := 832, doneAt := 50 }, waiting := some [2, 3]
         dialogue := some { kind := .thaw, body := [], transmit := .waiting, timer := none } }
       p.waiting = some [2, 3] ∧ p.divisor = some 52 ∧ p.dialogue.bind (·.timer) = none ∧ p.faulted = false ∧
         p.sending ≠ none) ∧
      (let p : Port := { talking .freeze with
         sending := some { bytes := [1], bitTicks := 832, doneAt := 50 }, waiting := some [2, 3], dialogue := none }
       p.waiting = some [2, 3] ∧ p.dialogue = none) ∧
      ({ talking .freeze with faulted := true, dialogue := none }.faulted = true ∧ (planned.port 0).sending = none ∧
        (planned.port 0).faulted = false ∧ (planned.port 0).divisor = some 52) ∧
      (∀ s ∈ [asking .freeze .capture Lane.fresh,
          asking .thaw .rollback { Lane.fresh with rollbackReason := some .incident },
          asking .restore .restore Lane.fresh, asking .align .align Lane.fresh,
          asking .release .release { Lane.fresh with releaseSends := 2 },
          asking .release .release { Lane.fresh with releaseSends := 3 }],
        s.stationPlan 0 = some station0 ∧ ((s.port 0).dialogue.bind (·.timer)) = some 200 ∧ s.laneOf 0 = some 0 ∧
          (s.station 0).isSome ∧ ∀ q ∈ s.adm.queue, q.station ≠ 0) ∧
      (withPort0 (talking .freeze) planned).laneOf 0 = none := by and_intros <;> decide +kernel

/-! #### Invariants: the state after power-on meets each, and a step from it answers a next state -/

/-- Every port after power-on is in order. -/
theorem reset_portsInv : PortsInv State.reset := by
  intro n
  have h : State.reset.port n = Port.fresh := by simp [State.port, State.reset, tget, tfill]
  rw [h]
  constructor <;> simp [Port.fresh]

theorem met_LinkInvariantKept :
    LinkInv State.reset.link ∧ PortsInv State.reset ∧ step State.reset = .next (idle State.reset) := by
  refine ⟨?_, reset_portsInv, rfl⟩
  constructor <;> simp [State.reset, HostLink.settled]

theorem met_ChannelsInvariantKept : ChannelsInv State.reset ∧ step State.reset = .next (idle State.reset) := by
  refine ⟨fun c => ?_, rfl⟩
  have h : State.reset.channel c = Channel.fresh := by simp [State.channel, State.reset, tget, tfill]
  rw [h]
  constructor <;> simp [Channel.fresh]

theorem met_TimeInvariantKept : TimeInv State.reset.time ∧ step State.reset = .next (idle State.reset) :=
  ⟨fresh_timeInv, rfl⟩

theorem met_ScanInvariantKept : ScanInv State.reset.scan ∧ step State.reset = .next (idle State.reset) := by
  refine ⟨?_, rfl⟩
  constructor <;> simp [State.reset]

theorem met_PlanInvariantKept : PlanInv State.reset.plan ∧ step State.reset = .next (idle State.reset) :=
  ⟨reset_planInv, rfl⟩

/-- The restart after power-on is in order. -/
theorem reset_restartInv : RestartInv State.reset where
  defined := by decide +kernel
  entries := by decide +kernel
  queued := by decide +kernel
  free := by decide +kernel
  apart := by
    have h : ∀ l, (State.reset.laneRec l).station = none := by decide +kernel
    intro l k n hn
    rw [h] at hn
    cases hn
  active := by decide +kernel
  lanes := by
    have h : ∀ l, (State.reset.laneRec l).stage = .free := by decide +kernel
    exact fun l hl => absurd (h l) hl
  timers := by decide +kernel
  params := by decide +kernel
  ranges := by intro p hp; cases hp
  quiet := by decide +kernel
  plan := by decide +kernel
  reserved := by decide +kernel
  held := by simp only [holdsChannels]; decide +kernel
  follow := by
    have h : ∀ l, (State.reset.laneRec l).station = none := by decide +kernel
    intro l n hn
    rw [h] at hn
    cases hn
  cover := by
    have h : ∀ z, State.reset.zonePlan z = none := by decide +kernel
    intro z p hz
    rw [h] at hz
    cases hz
  attempts := by
    have h : ∀ l, (State.reset.laneRec l).station = none := by decide +kernel
    intro l n r p hn
    rw [h] at hn
    cases hn
  counts := by
    have h : ∀ n, State.reset.station n = none := by decide +kernel
    intro n r hr
    rw [h] at hr
    cases hr
  line := by decide +kernel
  dialogue := by decide +kernel

/-- Station 0 in RESTART, captured, with its channels reserved and its restart line asserted. -/
def restarting : State :=
  let s := inLane .restart { StationRec.fresh with attempts := 1 }
  { s with
    adm := { s.adm with reserved := tset (tset (tfill 32 false) 0 true) 1 true }
    lane := { s.lane with restartLine := tset (tfill 16 false) 0 true } }

theorem restarting_restartInv : RestartInv restarting where
  defined := by decide +kernel
  entries := by decide +kernel
  queued := by decide +kernel
  free := by decide +kernel
  apart := by decide +kernel
  active := by decide +kernel
  lanes := by
    have h : ∀ l, (restarting.laneRec l).stage ≠ .free →
        (restarting.adm.params.any fun p => decide (l.val < p.lanesInUse)) = true := by decide +kernel
    intro l hl
    simpa [Option.any_eq_true] using h l hl
  timers := by decide +kernel
  params := by decide +kernel
  ranges := by intro p hp; cases hp; decide
  quiet := by decide +kernel
  plan := by decide +kernel
  reserved := by decide +kernel
  held := by simp only [holdsChannels]; decide +kernel
  follow := by
    have h : ∀ l n, (restarting.laneRec l).station = some n → (restarting.laneRec l).stage = .restart := by
      decide +kernel
    intro l n hn hs
    simp [h l n hn] at hs
  cover := by
    have h : ∀ z, (restarting.zonePlan z).all (fun p =>
        decide (1000 * reservedCapacity restarting z ≤ p.holdLimit * restarting.total z)) = true := by decide +kernel
    intro z p hz
    have := h z
    rw [hz] at this
    simpa using this
  attempts := by
    have h : ∀ n, (restarting.station n).all (fun r => (restarting.stationPlan n).all fun p =>
        decide (r.attempts ≤ p.retryLimit + 1)) = true := by decide +kernel
    intro l n r p _ hr hp
    have := h n
    rw [hr, hp] at this
    simpa using this
  counts := by
    have h : ∀ n, (restarting.station n).all (fun r => decide (r.alignAttempts ≤ 3 ∧ r.captureFailures ≤ 4)) = true := by
      decide +kernel
    intro n r hr
    have := h n
    rw [Option.mem_def.1 hr] at this
    simpa using this
  line := by decide +kernel
  dialogue := by decide +kernel

theorem restarting_portsInv : PortsInv restarting := by
  have h : ∀ n, restarting.port n = Port.fresh ∨
      restarting.port n = { Port.fresh with rate := some 19200, divisor := some 52 } := by decide +kernel
  intro n
  rcases h n with e | e <;> rw [e] <;> constructor <;> simp [Port.fresh]

/-- The state after power-on has no channel out of FOLLOW and no zone with a demand. -/
theorem reset_regulatorInv : RegulatorInv State.reset := by
  have hc : ∀ c, State.reset.channel c = Channel.fresh := fun c => by simp [State.channel, State.reset, tget, tfill]
  have hz : ∀ z, State.reset.zoneRec z = ZoneRec.fresh := fun z => by simp [State.zoneRec, State.reset, tget, tfill]
  constructor <;> simp [hc, hz, Channel.fresh, ZoneRec.fresh]

/-- `restarting` with the hold-grace timer EXPIRED and channel 0 taken over: in TRACK at its zone's target. -/
def regulating : State :=
  let s := withChannel 0 (drivenAt .track) restarting
  let r : ZoneRec := { s.zoneRec 0 with demand := some 400, target := some 400, trackCount := 1 }
  { s with
    lane := { s.lane with grace := tset s.lane.grace 0 .expired }
    reg := { s.reg with zones := tset s.reg.zones 0 r } }

theorem regulating_restartInv : RestartInv regulating where
  defined := restarting_restartInv.defined
  entries := restarting_restartInv.entries
  queued := restarting_restartInv.queued
  free := restarting_restartInv.free
  apart := restarting_restartInv.apart
  active := restarting_restartInv.active
  lanes := restarting_restartInv.lanes
  timers := restarting_restartInv.timers
  params := restarting_restartInv.params
  ranges := restarting_restartInv.ranges
  quiet := restarting_restartInv.quiet
  plan := restarting_restartInv.plan
  reserved := by decide +kernel
  held := restarting_restartInv.held
  follow := by
    have h : ∀ l n, (regulating.laneRec l).station = some n → (regulating.laneRec l).stage = .restart := by
      decide +kernel
    intro l n hn hs
    simp [h l n hn] at hs
  cover := restarting_restartInv.cover
  attempts := restarting_restartInv.attempts
  counts := restarting_restartInv.counts
  line := restarting_restartInv.line
  dialogue := restarting_restartInv.dialogue

theorem regulating_channels : ∀ c, regulating.channel c = drivenAt .track ∨ regulating.channel c = drivenAt .hold ∨
    regulating.channel c = Channel.fresh := by decide +kernel

theorem regulating_channelsInv : ChannelsInv regulating := by
  intro c
  rcases regulating_channels c with e | e | e <;> rw [e] <;> constructor <;> simp [drivenAt, Channel.fresh]

theorem regulating_regulatorInv : RegulatorInv regulating where
  count := by decide +kernel
  target := by decide +kernel
  demand := by decide +kernel
  ranges := by
    have h : ∀ z, regulating.zoneRec z = ZoneRec.fresh ∨
        regulating.zoneRec z = { ZoneRec.fresh with demand := some 400, target := some 400, trackCount := 1 } := by
      decide +kernel
    intro z
    rcases h z with e | e <;> rw [e] <;> simp [ZoneRec.fresh]
  driven := by decide +kernel
  levels := by
    intro c
    rcases regulating_channels c with e | e | e <;> rw [e] <;> simp [drivenAt, Channel.fresh]
  tracks := by
    have h : ∀ c, (regulating.channel c).mode = .track → (regulating.channelPlan c).all (fun p =>
        decide ((regulating.channel c).target =
          (regulating.zoneRec p.zone).target.map fun d => max p.minLevel (min p.maxLevel d))) = true := by
      decide +kernel
    intro c p hp hm
    have := h c hm
    rw [hp] at this
    simpa using this

theorem met_RegulatorInvariantKept :
    (RegulatorInv State.reset ∧ step State.reset = .next (idle State.reset)) ∧
      PlanInv regulating.plan ∧ PortsInv regulating ∧ RestartInv regulating ∧ ChannelsInv regulating ∧
      RegulatorInv regulating ∧ step regulating = .next (idle regulating) :=
  ⟨⟨reset_regulatorInv, rfl⟩, planned_planInv, restarting_portsInv, regulating_restartInv, regulating_channelsInv,
    regulating_regulatorInv, rfl⟩

theorem met_RestartInvariantKept :
    (PlanInv State.reset.plan ∧ PortsInv State.reset ∧ RestartInv State.reset ∧
      step State.reset = .next (idle State.reset)) ∧
      PlanInv restarting.plan ∧ PortsInv restarting ∧ RestartInv restarting ∧
      step restarting = .next (idle restarting) :=
  ⟨⟨reset_planInv, reset_portsInv, reset_restartInv, rfl⟩, planned_planInv, restarting_portsInv, restarting_restartInv, rfl⟩

end Sys2Proof.Tests
end

namespace Sys2Proof.Machine

/-! The requests about one station, CAMPAIGN_CANCEL and STATION_RELEASE: first the rules of the operations they share
(changing a station's record, releasing reservations, follow orders, the refusals of a station number, the removal of an
entry), then the two requests. -/

/-! ### One station's record -/

/-- Changing the record of a defined station. -/
theorem modStation_of_some {n : Fin 16} {r : StationRec} {s : State} (h : s.station n = some r)
    (f : StationRec → StationRec) :
    s.modStation n f = { s with adm := { s.adm with stations := tset s.adm.stations n (some (f r)) } } := by
  rw [State.modStation, h]; rfl

/-- R28: a defined station that changes to a state other than ACTIVE, with its NOTE_STATION. -/
theorem changeStation_of_some {n : Fin 16} {r : StationRec} {s : State} (h : s.station n = some r)
    (f : StationRec → StationRec) (hf : (f r).state ≠ .active) :
    changeStation n f s = { s with
      adm := { s.adm with stations := tset s.adm.stations n (some (f r)) }
      outbox := s.outbox ++ [stateNote n (f r)] } := by
  have hn : (s.modStation n f).station n = some (f r) := by simp [h]
  have hnote : stationNotice (s.modStation n f) n (f r) = (stateNote n (f r)).2 := by
    simp [stationNotice, stateNote, hf]
  rw [changeStation, noteStation, hn]
  dsimp only
  rw [hnote, modStation_of_some h]
  rfl

/-! ### Reservations -/

/-- Writing one value to the entries of a list. -/
theorem tget_foldl_tset {α : Type} {k : Nat} (v : α) (cs : List (Fin k)) (t : Vector α k) (c : Fin k) :
    tget (cs.foldl (fun t c => tset t c v) t) c = if c ∈ cs then v else tget t c := by
  induction cs generalizing t with
  | nil => simp
  | cons a cs ih =>
    rw [List.foldl_cons, ih, tget_tset]
    by_cases hc : c ∈ cs <;> by_cases ha : c = a <;> simp [hc, ha]

/-- R36: the release of a station's reservations. -/
theorem reserveBound_false (n : Fin 16) (s : State) :
    reserveBound n false s = { s with
      adm := { s.adm with reserved := tmap (fun c b => b && decide (c ∉ s.bound n)) s.adm.reserved } } := by
  have h : (s.bound n).foldl (fun t c => tset t c false) s.adm.reserved =
      tmap (fun c b => b && decide (c ∉ s.bound n)) s.adm.reserved := tables_eq fun c => by
    rw [tget_foldl_tset, tget_tmap]
    by_cases hc : c ∈ s.bound n <;> simp [hc]
  rw [reserveBound, h]; rfl

/-! ### Channels that leave TRACK -/

/-- R118: one channel leaves TRACK, and then `k` more of its zone. -/
theorem tracksLeft_add_one (k : Nat) (r : ZoneRec) : tracksLeft (k + 1) r = tracksLeft k (tracksLeft 1 r) := by
  unfold tracksLeft
  by_cases hk : k = 0
  · simp [hk]
  · by_cases h1 : r.trackCount ≤ 1
    · simp [hk, h1, show r.trackCount ≤ k + 1 by omega]
    · by_cases h : r.trackCount ≤ k + 1
      · simp [hk, h1, h, show r.trackCount - 1 ≤ k by omega]
      · simp [hk, h1, h, show ¬ r.trackCount - 1 ≤ k by omega]
        omega

/-- A channel stands in TRACK and belongs to the zone. -/
def tracksIn (s : State) (z : Fin 12) (c : Fin 32) : Bool :=
  decide ((s.channel c).mode = .track) && s.zoneOf c == some z

/-- The channels of a list that stand in TRACK in a zone, as `tracksLeave` counts them. -/
def trackersIn (s : State) (z : Fin 12) (cs : List (Fin 32)) : Finset (Fin 32) :=
  Finset.univ.filter fun c => c ∈ cs ∧ tracksIn s z c = true

theorem tget_tracksLeave (cs : List (Fin 32)) (s : State) (z : Fin 12) :
    tget (tracksLeave cs s).zones z = tracksLeft (trackersIn s z cs).card (s.zoneRec z) := by
  have hnodup := (List.nodup_finRange 32).filter fun c =>
    decide (c ∈ cs) && decide ((s.channel c).mode = .track) && s.zoneOf c == some z
  have hlist : trackersIn s z cs = (allChannels.filter fun c =>
      decide (c ∈ cs) && decide ((s.channel c).mode = .track) && s.zoneOf c == some z).toFinset := by
    ext c; simp [trackersIn, tracksIn, allChannels, and_assoc]
  rw [tracksLeave, tget_tmap, hlist, allChannels, List.toFinset_card_of_nodup hnodup]
  rfl

/-- R118: what the exit of one channel makes of a zone record. -/
theorem leaveTrack_zoneRec (c : Fin 32) (s : State) (z : Fin 12) :
    (leaveTrack c s).zoneRec z = tracksLeft (if tracksIn s z c then 1 else 0) (s.zoneRec z) := by
  unfold leaveTrack
  by_cases hm : (s.channel c).mode = .track
  · cases hz : s.zoneOf c with
    | none => simp [tracksIn, tracksLeft, hm, hz]
    | some y =>
      by_cases hy : z = y
      · subst hy
        by_cases h1 : (s.zoneRec z).trackCount ≤ 1 <;> simp [countTrackExit, tracksIn, tracksLeft, hm, hz, h1]
      · by_cases h1 : (s.zoneRec y).trackCount ≤ 1 <;>
          simp [countTrackExit, tracksIn, tracksLeft, hm, hz, hy, Ne.symm hy, h1]
  · simp [tracksIn, tracksLeft, hm]

theorem leaveTrack_keeps (c : Fin 32) (s : State) : keepsBut [.reg] s (leaveTrack c s) := by
  unfold leaveTrack countTrackExit
  split
  · split
    · dsimp only
      split <;> · intro p hp; cases p <;> first | rfl | simp at hp
    · exact .rfl' _ _
  · exact .rfl' _ _

/-- R118: a channel that leaves TRACK and then those of a list: the Regulator counts all of them. -/
theorem tracksLeave_cons {c : Fin 32} {s t : State} (cs : List (Fin 32)) (hplan : t.plan = s.plan)
    (hmode : ∀ d, (t.channel d).mode = .track ↔ d ≠ c ∧ (s.channel d).mode = .track)
    (hreg : t.reg = (leaveTrack c s).reg) : tracksLeave cs t = tracksLeave (c :: cs) s := by
  have hzone : ∀ d, t.zoneOf d = s.zoneOf d := fun d => by simp only [State.zoneOf, State.channelPlan, hplan]
  have hcard : ∀ z, (trackersIn s z (c :: cs)).card =
      (trackersIn t z cs).card + if tracksIn s z c then 1 else 0 := by
    intro z
    by_cases hc : tracksIn s z c = true
    · have hi : trackersIn s z (c :: cs) = insert c (trackersIn t z cs) := by
        ext d
        by_cases hd : d = c
        · subst hd; simp [trackersIn, hc]
        · simp [trackersIn, tracksIn, hmode, hzone, hd]
      have hn : c ∉ trackersIn t z cs := by simp [trackersIn, tracksIn, hmode]
      rw [hi, Finset.card_insert_of_notMem hn, if_pos hc]
    · have he : trackersIn s z (c :: cs) = trackersIn t z cs := by
        ext d
        by_cases hd : d = c
        · subst hd; simp [trackersIn, hc, show tracksIn t z d = false by simp [tracksIn, hmode]]
        · simp [trackersIn, tracksIn, hmode, hzone, hd]
      rw [he, if_neg hc, Nat.add_zero]
  have hrec : ∀ z, t.zoneRec z = tracksLeft (if tracksIn s z c then 1 else 0) (s.zoneRec z) := fun z => by
    rw [← leaveTrack_zoneRec, State.zoneRec, hreg, State.zoneRec]
  have hzones : (tracksLeave cs t).zones = (tracksLeave (c :: cs) s).zones := tables_eq fun z => by
    rw [tget_tracksLeave, tget_tracksLeave, hcard, hrec]
    split
    · exact (tracksLeft_add_one _ _).symm
    · simp [tracksLeft]
  have hnext : t.reg.nextZones = s.reg.nextZones := by rw [hreg, (untouched_leaveTrack c s).nextZones]
  exact congrArg₂ Regulator.mk hzones hnext

/-! ### Follow orders -/

/-- R81, R118: the follow order for every channel of a list; `follows` is that for the bound channels of a station. -/
def followsList (cs : List (Fin 32)) (s : State) : State :=
  { s with
    chan := { s.chan with channels := tmap (fun c r => if c ∈ cs then followRecord r else r) s.chan.channels }
    reg := tracksLeave cs s }

theorem followsList_bound (n : Fin 16) (s : State) : followsList (s.bound n) s = follows n s := rfl

theorem followsList_nil (s : State) : followsList [] s = s := by
  refine State.ext_parts fun p => ?_
  cases p
  case chan => exact congrArg (ChannelUnit.mk · _ _) (tables_eq fun c => by simp)
  case reg => exact congrArg (Regulator.mk · _) (tables_eq fun z => by simp [tracksLeft])
  all_goals rfl

theorem followRecord_of_follow {r : Channel} (h : r.mode = .follow) : followRecord r = r := if_pos h

theorem followRecord_mode (r : Channel) : (followRecord r).mode = .follow := by
  unfold followRecord; split
  · assumption
  · rfl

theorem followRecord_followRecord (r : Channel) : followRecord (followRecord r) = followRecord r :=
  followRecord_of_follow (followRecord_mode r)

theorem followOrder_keeps (c : Fin 32) (s : State) : keepsBut [.chan, .reg] s (followOrder c s) := by
  unfold followOrder
  split
  · exact .rfl' _ _
  · refine ((leaveTrack_keeps c s).mono (by simp)).trans ?_
    intro p hp; cases p <;> first | rfl | simp at hp

theorem followOrder_channel (c d : Fin 32) (s : State) :
    (followOrder c s).channel d = if d = c then followRecord (s.channel d) else s.channel d := by
  have hleave : ∀ d, (leaveTrack c s).channel d = s.channel d := fun d => by
    rw [State.channel, leaveTrack_keeps c s .chan (by simp), State.channel]
  unfold followOrder
  by_cases hm : (s.channel c).mode = .follow
  · by_cases hd : d = c
    · subst hd; simp [hm, followRecord_of_follow]
    · simp [hm, hd]
  · by_cases hd : d = c
    · subst hd; simp [hm, hleave, followRecord, followed]
    · simp [hm, hd, hleave]

theorem followOrder_reg (c : Fin 32) (s : State) : (followOrder c s).reg = (leaveTrack c s).reg := by
  unfold followOrder
  split
  · rename_i hm; simp [leaveTrack, hm]
  · rfl

/-- R81, R118: follow orders one after another. -/
theorem foldl_followOrder (cs : List (Fin 32)) (s : State) :
    cs.foldl (fun s c => followOrder c s) s = followsList cs s := by
  induction cs generalizing s with
  | nil => exact (followsList_nil s).symm
  | cons c cs ih =>
    rw [List.foldl_cons, ih]
    have hkeep := followOrder_keeps c s
    have hmode : ∀ d, ((followOrder c s).channel d).mode = .track ↔ d ≠ c ∧ (s.channel d).mode = .track := by
      intro d
      rw [followOrder_channel]
      by_cases hd : d = c <;> simp [hd, followRecord_mode]
    have hchannels : (followsList cs (followOrder c s)).chan.channels = (followsList (c :: cs) s).chan.channels :=
      tables_eq fun d => by
        have hd := followOrder_channel c d s
        simp only [State.channel] at hd
        simp only [followsList, tget_tmap, hd, List.mem_cons]
        by_cases h1 : d = c <;> by_cases h2 : d ∈ cs <;> simp [h1, h2, followRecord_followRecord]
    have hframe := untouched_followOrder c s
    have hchan := congr (congrArg₂ ChannelUnit.mk hchannels hframe.nextMeasure) hframe.nextRamp
    refine State.ext_parts fun p => ?_
    have hrest := hkeep p
    cases p
    case chan => exact hchan
    case reg => exact tracksLeave_cons cs (hkeep .plan (by simp)) hmode (followOrder_reg c s)
    all_goals exact hrest (by simp)

/-- R33: the follow orders of the bound channels of a station. -/
theorem foldl_followOrder_bound (n : Fin 16) (s : State) :
    (s.bound n).foldl (fun s c => followOrder c s) s = follows n s :=
  (foldl_followOrder _ s).trans (followsList_bound n s)

/-! ### Requests with a station number -/

theorem toNat_byteOf (n : Fin 16) : (byteOf n.val).toNat = n.val := by
  have := n.isLt
  simp only [byteOf, BitVec.toNat_ofNat]; omega

theorem numberOf_val {k : Nat} (n : Fin k) : numberOf k n.val = some n := dif_pos n.isLt

theorem withStation_of_some {n : Fin 16} {r : StationRec} {s : State} (h : s.station n = some r)
    (f : Fin 16 → StationRec → State → Answer) : withStation n.val f s = f n r s := by
  simp [withStation, withField, withSlot, numberOf_val, h]

theorem withStation_of_none {n : Fin 16} {s : State} (h : s.station n = none)
    (f : Fin 16 → StationRec → State → Answer) : withStation n.val f s = refuse .notDefined s := by
  simp [withStation, withField, withSlot, numberOf_val, h]

theorem withStation_of_le {x : Nat} (h : 16 ≤ x) (f : Fin 16 → StationRec → State → Answer) (s : State) :
    withStation x f s = refuse .badField s := by
  simp [withStation, withField, numberOf, Nat.not_lt.mpr h]

/-- R19, R177: a request about one station is refused for a number outside the range and for an undefined slot. -/
theorem stationRequest_refused {kind : Byte} {f : Fin 16 → StationRec → State → Answer}
    (hkind : serviceOf kind.toNat = some fun b => withFields (readOne b) fun x => withStation x f)
    (tag x : Byte) (s : State) (h : linkReady s) :
    (16 ≤ x.toNat → ∃ t, request kind tag [x] s = .next t ∧ answered [] s t kind tag .badField .none) ∧
      ∀ n : Fin 16, x.toNat = n.val → s.station n = none →
        ∃ t, request kind tag [x] s = .next t ∧ answered [] s t kind tag .notDefined .none := by
  refine ⟨fun hx => request_refused hkind h (withStation_of_le hx f s), fun n hx hn => request_refused hkind h ?_⟩
  show withStation x.toNat f s = _
  rw [hx, withStation_of_none hn]

/-- R176: a request about a defined station is answered as its handler answers for the station's record. -/
theorem stationRequest_body {f : Fin 16 → StationRec → State → Answer} {n : Fin 16} {r : StationRec} {s : State}
    (hn : s.station n = some r) :
    withFields (readOne [byteOf n.val]) (fun x => withStation x f) s = f n r s := by
  show withStation (byteOf n.val).toNat f s = _
  rw [toNat_byteOf, withStation_of_some hn]

/-- R176, R177: a request whose handler answers with the state `v`. -/
theorem request_answeredWith {kind tag : Byte} {body : List Byte} {s v : State} {f : List Byte → State → Answer}
    {st : Status} {items : Items} (hs : serviceOf kind.toNat = some f) (h : linkReady s)
    (he : f body s = (v, st, items)) : request kind tag body s = .next (answeredWith kind tag st items v) := by
  rw [request_dispatched hs h, he]; rfl

/-! ### Entries -/

theorem campaignOpen_iff (s : State) :
    campaignOpen s = true ↔ s.adm.campaign = .running ∨ s.adm.campaign = .halted := by simp [campaignOpen]

theorem hasEntry_iff (s : State) (n : Fin 16) : hasEntry s n = true ↔ ∃ q ∈ s.adm.queue, q.station = n := by
  simp [hasEntry]

theorem find?_split {before after : List QueueEntry} {e : QueueEntry} (h : ∀ q ∈ before, q.station ≠ e.station) :
    (before ++ e :: after).find? (fun q => decide (q.station = e.station)) = some e :=
  List.find?_eq_some_iff_append.mpr ⟨by simp, before, after, rfl, fun q hq => by simp [h q hq]⟩

theorem withoutEntry_split {before after : List QueueEntry} {e : QueueEntry}
    (h : ∀ q ∈ before ++ after, q.station ≠ e.station) :
    withoutEntry e.station (before ++ e :: after) = before ++ after := by
  have hkeep : ∀ q ∈ before ++ after, (q.station != e.station) = true := fun q hq => by simp [h q hq]
  rw [withoutEntry, List.filter_append, List.filter_cons_of_neg (by simp), ← List.filter_append,
    List.filter_eq_self.mpr hkeep]

/-- R23, R25: the record of a station whose entry is removed without admission. -/
def droppedRecord (e : QueueEntry) (r : StationRec) : StationRec :=
  if e.preCaptured then { r with preCaptured := false } else { r with state := .cancelled }

theorem dropEntry_of_some {e : QueueEntry} {r : StationRec} {s : State} (h : s.station e.station = some r) :
    dropEntry e s = { s with
      adm := { s.adm with
        queue := withoutEntry e.station s.adm.queue
        stations := tset s.adm.stations e.station (some (droppedRecord e r)) }
      outbox := s.outbox ++ if e.preCaptured then [] else [stateNote e.station (droppedRecord e r)] } := by
  have hn : (s.setQueue (withoutEntry e.station s.adm.queue)).station e.station = some r := h
  by_cases hp : e.preCaptured = true
  · simp only [dropEntry, droppedRecord, hp, if_true, modStation_of_some hn, List.append_nil]
    rfl
  · simp only [dropEntry, droppedRecord, hp, if_false, Bool.false_eq_true]
    exact changeStation_of_some hn _ (by simp)

/-! ### CAMPAIGN_CANCEL (R23) -/

/-- Settles O25, from what the removal of an entry does to the station's record and to the queue. -/
theorem campaignCancelRemovesTheEntry : Obligations.CampaignCancelRemovesTheEntry := by
  refine ⟨fun tag n r s hl hn => ⟨fun hno => ?_, ?_⟩, fun tag x s hl => stationRequest_refused rfl tag x s hl⟩
  · refine request_refused (kind := 0x12) rfl hl ((stationRequest_body hn).trans ?_)
    rcases hno with ⟨hrun, hhalt⟩ | hnone
    · simp [show campaignOpen s = false by simp [campaignOpen, hrun, hhalt]]
    · have hfind : s.adm.queue.find? (fun e => decide (e.station = n)) = none :=
        List.find?_eq_none.mpr fun q hq => by simp [hnone q hq]
      simp [hfind]
  · rintro before after e hopen hq rfl hother _ u rfl hu
    refine request_answeredWith (kind := 0x12) rfl hl ((stationRequest_body hn).trans ?_)
    have hfind := find?_split (after := after) fun q hq => hother q (List.mem_append_left _ hq)
    have hdrop : endTest (callPass (dropEntry e s)) = u := by
      rw [dropEntry_of_some hn, hq, withoutEntry_split hother, hu]; rfl
    simp only [(campaignOpen_iff s).mpr hopen, hq, hfind, hdrop, campaignQueueItems]

/-! ### STATION_RELEASE (R33) -/

/-- R33: a released station before its pass, as one change of the state. -/
theorem releaseStation_of_some {n : Fin 16} {r r' : StationRec} {s : State} (h : s.station n = some r)
    (hr : r' = { r with state := .idle, checkpoint := none, preCaptured := false }) :
    releaseStation n s = { follows n s with
      lane := { s.lane with grace := tset s.lane.grace n .notStarted }
      adm := { s.adm with
        queue := s.adm.queue.filter fun q => decide (q.station ≠ n)
        reserved := tmap (fun c b => b && decide (c ∉ s.bound n)) s.adm.reserved
        stations := tset s.adm.stations n (some r') }
      outbox := s.outbox ++ [stateNote n r'] } := by
  have hqueue : withoutEntry n s.adm.queue = s.adm.queue.filter fun q => decide (q.station ≠ n) :=
    List.filter_congr fun q _ => by simp [bne, beq_eq_decide]
  unfold releaseStation
  dsimp only
  rw [foldl_followOrder_bound, reserveBound_false, hqueue, hr]
  refine changeStation_of_some (r := r) ?_ _ ?_
  · exact h
  · simp

/-- Settles O29, from the release of the station as one change of the state. -/
theorem stationReleaseFreesTheStation : Obligations.StationReleaseFreesTheStation := by
  refine ⟨fun tag n r s hl hn => ⟨fun hr => ?_, ?_⟩, fun tag x s hl => stationRequest_refused rfl tag x s hl⟩
  · exact request_refused (kind := 0x19) rfl hl ((stationRequest_body hn).trans (if_neg hr))
  · intro hr r' w u hr' hw hu
    refine request_answeredWith (kind := 0x19) rfl hl ((stationRequest_body hn).trans ((if_pos hr).trans ?_))
    have hw' : callPass (releaseStation n s) = w := by rw [releaseStation_of_some hn hr', hw]
    have hu' : (if hasEntry s n then endTest w else w) = u := by simp only [hasEntry_iff, hu]
    simp only [hw', hu', stateOf, State.stationState]

end Sys2Proof.Machine

namespace Sys2Proof.Machine

/-! The requests of the Sensor Scan Unit, SCAN_CONFIG and SENSOR_SCAN: first the rules of a sequence, of the stored
configuration and of the stale limit, then the two requests. -/

/-! ### The next input of a sequence (R100) -/

theorem convertible_iff (s : State) (i : Fin 8) :
    convertible s i = true ↔ ∃ p, s.sensorPlan i = some p ∧ p.kind ≠ .unused := by
  cases h : s.sensorPlan i <;> simp [convertible, h]

theorem not_convertible_iff (s : State) (i : Fin 8) :
    convertible s i = false ↔ ∀ p, s.sensorPlan i = some p → p.kind = .unused := by
  cases h : s.sensorPlan i <;> simp [convertible, h]

theorem nextInput_eq_some {s : State} {from_ : Nat} {i : Fin 8} (hfrom : from_ ≤ i.val)
    (hcount : i.val < s.scan.config.count) (hconv : convertible s i = true)
    (hleast : ∀ j : Fin 8, from_ ≤ j.val → j < i → convertible s j = false) : nextInput s from_ = some i := by
  refine List.find?_eq_some_iff_getElem.mpr ⟨by simp [hfrom, hcount, hconv], i.val, by simp [allInputs], ?_, ?_⟩
  · simp [allInputs]
  · intro k hk
    have hlt : k < 8 := hk.trans i.isLt
    by_cases hk' : from_ ≤ k
    · simp [allInputs, hleast ⟨k, hlt⟩ hk' hk]
    · simp [allInputs, hk']

theorem nextInput_eq_none {s : State} {from_ : Nat}
    (h : ∀ i : Fin 8, from_ ≤ i.val → i.val < s.scan.config.count → convertible s i = false) :
    nextInput s from_ = none := by
  refine List.find?_eq_none.mpr fun i _ hi => ?_
  simp only [Bool.and_eq_true, decide_eq_true_eq] at hi
  obtain ⟨⟨hfrom, hcount⟩, hconv⟩ := hi
  exact Bool.false_ne_true ((h i hfrom hcount).symm.trans hconv)

theorem continueFrom_eq_setScan (from_ : Nat) (s : State) :
    continueFrom from_ s = s.setScan (continueFrom from_ s).scan := by
  unfold continueFrom
  cases nextInput s from_ <;> rfl

/-- R100: the scan after a sequence has gone on meets the rule's words. -/
theorem scanGoesOn_of_continueFrom {from_ : Nat} {s t : State} (h : t.scan = (continueFrom from_ s).scan) :
    scanGoesOn s.now from_ s.scan s t := by
  refine ⟨fun i hfrom hcount hconv hleast => ?_, fun hnone => ?_⟩
  · have hnext : nextInput s from_ = some i :=
      nextInput_eq_some hfrom hcount ((convertible_iff s i).mpr hconv) fun j hj hji =>
        (not_convertible_iff s j).mpr (hleast j hj hji)
    rw [h, continueFrom, hnext]; rfl
  · have hnext : nextInput s from_ = none :=
      nextInput_eq_none fun i hi hc => (not_convertible_iff s i).mpr (hnone i hi hc)
    rw [h, continueFrom, hnext]; rfl

/-! ### The stored configuration (R99) -/

theorem scanModeOf_of_le {x : Nat} (h : 3 ≤ x) : scanModeOf x = none := by
  obtain ⟨y, rfl⟩ := Nat.exists_eq_add_of_le' h
  rfl

theorem triggerOf_of_le {x : Nat} (h : 3 ≤ x) : triggerOf x = none := by
  obtain ⟨y, rfl⟩ := Nat.exists_eq_add_of_le' h
  rfl

/-- R99, step 2: a mode, a trigger or an input number outside its list is refused. -/
theorem scanConfigStored_outOfRange {f : ScanFields} (h : 3 ≤ f.mode ∨ 3 ≤ f.trigger ∨ 8 ≤ f.single) :
    scanConfigStored f = none := by
  rcases h with hm | ht | hi
  · simp [scanConfigStored, scanModeOf_of_le hm]
  · simp [scanConfigStored, triggerOf_of_le ht]
  · simp [scanConfigStored, numberOf, Nat.not_lt.mpr hi]

/-- R99, step 4: the configuration that fields in range give, clamped. -/
def clampedConfig (f : ScanFields) (m : ScanMode) (tr : Trigger) (i : Fin 8) : ScanConfig :=
  { mode := m, trigger := tr, period := max 100 (min 5000 f.period), count := max 1 (min 8 f.count), single := i }

/-- R99, steps 3 and 4: fields in range are stored, clamped, exactly when mode and trigger agree. -/
theorem scanConfigStored_inRange {f : ScanFields} {m : ScanMode} {tr : Trigger} {i : Fin 8}
    (hm : scanModeOf f.mode = some m) (ht : triggerOf f.trigger = some tr) (hi : f.single = i.val) :
    scanConfigStored f = if (m = .cyclic ↔ tr ≠ .request) then some (clampedConfig f m tr i) else none := by
  simp only [scanConfigStored, hm, ht, hi, numberOf_val, clamp, clampedConfig]

/-! ### The effects of a stored configuration (R99, R107) -/

/-- R107: the stale limit follows from the trigger alone where mode and trigger agree. -/
theorem staleLimit_of_agree {c : ScanConfig} (h : c.mode = .cyclic ↔ c.trigger ≠ .request) :
    staleLimit c = if c.trigger = .period then 3 * c.period else if c.trigger = .mark then 3000 else 5000 := by
  cases ht : c.trigger with
  | request => simp [staleLimit, ht]
  | period => simp [staleLimit, ht, h.mpr]
  | mark => simp [staleLimit, ht, h.mpr]

theorem applyLimit_eq (now limit : Nat) (r : InputRec) :
    applyLimit now limit r =
      if r.valid = true ∧ ∃ a, r.ageFrom = some a ∧ limit * 16000 < now - a then
        { r with valid := false, seedPending := true }
      else r := by
  cases h : r.ageFrom <;> simp [applyLimit, invalidate, ticksOfMs, h]

/-- R99: the period timer runs exactly with trigger PERIOD, where mode and trigger agree. -/
theorem storeScanConfig_scan {c : ScanConfig} (h : c.mode = .cyclic ↔ c.trigger ≠ .request) (s : State) :
    (storeScanConfig c s).scan = { s.scan with
      config := c
      timer := if c.trigger = .period then some (s.now + c.period * 16000) else none
      inputs := (storeScanConfig c s).scan.inputs } := by
  have htimer : (c.mode = .cyclic ∧ c.trigger = .period) ↔ c.trigger = .period :=
    and_iff_right_of_imp fun ht => h.mpr (by simp [ht])
  simp only [storeScanConfig, State.setScan_scan, htimer, ticksOfMs]

/-- R99, R107: what the new stale limit leaves of each input. -/
theorem storeScanConfig_input (c : ScanConfig) (s : State) (j : Fin 8) :
    (storeScanConfig c s).input j = applyLimit s.now (staleLimit c) (s.input j) := by
  simp [storeScanConfig, State.input]

/-! ### The two requests (R99, R101) -/

/-- R176, R177: a request whose handler sets the scan alone. -/
theorem request_setsScan {kind tag : Byte} {body : List Byte} {s : State} {u : ScanUnit}
    {f : List Byte → State → Answer} {st : Status} {items : Items} (hs : serviceOf kind.toNat = some f)
    (hl : linkReady s) (he : f body s = (s.setScan u, st, items)) :
    ∃ t, request kind tag body s = .next t ∧ answered [.scan] s t kind tag st items ∧ t.scan = u := by
  have hk : keepsBut ([.scan] ++ [.link, .outbox, .free]) s (s.setScan u) := by
    intro p hp; cases p <;> first | rfl | simp at hp
  obtain ⟨t, hnext, hanswered, hkept⟩ := request_answers [.scan] hs hl he rfl hk
  exact ⟨t, hnext, hanswered, hkept .scan (by simp)⟩

theorem scanConfig_body {body : List Byte} {f : ScanFields} (h : readScanFields body = some f) (s : State) :
    withFields (readScanFields body) scanConfigTaken s = scanConfigTaken f s := by
  rw [h]; rfl

theorem scanConfigTaken_idle {s : State} (h : s.scan.scanning = false) (f : ScanFields) :
    scanConfigTaken f s =
      withField (scanConfigStored f) (fun c s => (storeScanConfig c s, .ok, .scanConfig c)) s := by
  simp [scanConfigTaken, h]

/-- R99: SCAN_CONFIG in the scan state SCANNING. -/
theorem scanConfig_busy {body : List Byte} {f : ScanFields} {s : State} (hl : linkReady s)
    (hread : readScanFields body = some f) (hscan : s.scan.scanning = true) (tag : Byte) :
    ∃ t, exec (.scanConfig tag body) s = .next t ∧ answered [] s t 0x30 tag .busy .none :=
  request_refused (kind := 0x30) rfl hl ((scanConfig_body hread s).trans (if_pos hscan))

/-- R99: SCAN_CONFIG whose fields give no configuration. -/
theorem scanConfig_badField {body : List Byte} {f : ScanFields} {s : State} (hl : linkReady s)
    (hread : readScanFields body = some f) (hscan : s.scan.scanning = false) (hstored : scanConfigStored f = none)
    (tag : Byte) : ∃ t, exec (.scanConfig tag body) s = .next t ∧ answered [] s t 0x30 tag .badField .none := by
  refine request_refused (kind := 0x30) rfl hl ((scanConfig_body hread s).trans ?_)
  rw [scanConfigTaken_idle hscan, hstored]; rfl

/-- R99: SCAN_CONFIG whose fields give the configuration `c`. -/
theorem scanConfig_stores {body : List Byte} {f : ScanFields} {c : ScanConfig} {s : State} (hl : linkReady s)
    (hread : readScanFields body = some f) (hscan : s.scan.scanning = false) (hstored : scanConfigStored f = some c)
    (tag : Byte) :
    ∃ t, exec (.scanConfig tag body) s = .next t ∧ answered [.scan] s t 0x30 tag .ok (.scanConfig c) ∧
      t.scan = (storeScanConfig c s).scan := by
  refine request_setsScan (kind := 0x30) rfl hl ((scanConfig_body hread s).trans ?_)
  rw [scanConfigTaken_idle hscan, hstored]; rfl

/-- R101: SENSOR_SCAN in mode CYCLIC. -/
theorem sensorScanTaken_cyclic {s : State} (h : s.scan.config.mode = .cyclic) :
    sensorScanTaken () s = refuse .wrongState s := by
  simp [sensorScanTaken, h]

/-- R101: SENSOR_SCAN in the scan state SCANNING. -/
theorem sensorScanTaken_busy {s : State} (h : s.scan.config.mode ≠ .cyclic) (hscan : s.scan.scanning = true) :
    sensorScanTaken () s = refuse .busy s := by
  cases hm : s.scan.config.mode with
  | cyclic => exact absurd hm h
  | single => simp [sensorScanTaken, hm, hscan]
  | sequence => simp [sensorScanTaken, hm, hscan]

/-- R101: SENSOR_SCAN in mode SINGLE, IDLE, is about the single input. -/
theorem sensorScanTaken_single {s : State} (h : s.scan.config.mode = .single) (hscan : s.scan.scanning = false) :
    sensorScanTaken () s = singleScan s := by
  simp [sensorScanTaken, h, hscan]

/-- R101: SENSOR_SCAN in mode SEQUENCE, IDLE, starts a sequence. -/
theorem sensorScanTaken_sequence {s : State} (h : s.scan.config.mode = .sequence) (hscan : s.scan.scanning = false) :
    sensorScanTaken () s = (s.setScan (continueFrom 0 s).scan, .ok, .none) := by
  rw [← continueFrom_eq_setScan]
  simp [sensorScanTaken, h, hscan]

/-- R101: the single input must be defined. -/
theorem singleScan_of_none {s : State} (h : s.sensorPlan s.scan.config.single = none) :
    singleScan s = refuse .notDefined s := by
  simp only [singleScan, h]

/-- R101: the conversion of a defined single input starts unless its kind is UNUSED. -/
theorem singleScan_of_some {s : State} {p : SensorPlan} (h : s.sensorPlan s.scan.config.single = some p) :
    singleScan s = if p.kind = .unused then refuse .wrongState s
      else (startConversion s.scan.config.single s, .ok, .none) := by
  simp only [singleScan, h]

theorem sensorScan_refused {s : State} {st : Status} (hl : linkReady s) (h : sensorScanTaken () s = refuse st s)
    (tag : Byte) : ∃ t, exec (.sensorScan tag []) s = .next t ∧ answered [] s t 0x31 tag st .none :=
  request_refused (kind := 0x31) rfl hl h

theorem sensorScan_starts {s : State} {u : ScanUnit} (hl : linkReady s)
    (h : sensorScanTaken () s = (s.setScan u, .ok, .none)) (tag : Byte) :
    ∃ t, exec (.sensorScan tag []) s = .next t ∧ answered [.scan] s t 0x31 tag .ok .none ∧ t.scan = u :=
  request_setsScan (kind := 0x31) rfl hl h

/-- Settles O32, from the stored configuration of SCAN_CONFIG and the handler of SENSOR_SCAN in each mode. -/
theorem scanRequestsConfigureAndStart : Obligations.ScanRequestsConfigureAndStart := by
  intro tag body f s hl hread
  refine ⟨fun hscan => ⟨?busyConfig, fun hmode => ?busyScan⟩,
    fun hscan m tr i hm ht hi => ⟨fun hdisagree => ?disagree, fun hagree => ?stored⟩,
    fun hrange hscan => ?outOfRange, fun hmode => ?cyclic, fun hmode hscan => ⟨fun hplan => ?undefined, ?single⟩,
    fun hmode hscan => ?sequence⟩
  case busyConfig => exact scanConfig_busy hl hread hscan tag
  case busyScan => exact sensorScan_refused hl (sensorScanTaken_busy hmode hscan) tag
  case disagree =>
    have hno : ¬(m = .cyclic ↔ tr ≠ .request) := by tauto
    exact scanConfig_badField hl hread hscan ((scanConfigStored_inRange hm ht hi).trans (if_neg hno)) tag
  case stored =>
    obtain ⟨t, hnext, hanswered, hscan'⟩ :=
      scanConfig_stores hl hread hscan ((scanConfigStored_inRange hm ht hi).trans (if_pos hagree)) tag
    refine ⟨t, clampedConfig f m tr i, staleLimit (clampedConfig f m tr i), hnext, rfl, staleLimit_of_agree hagree,
      hanswered, ?_, fun j => ?_⟩
    · rw [hscan']
      exact storeScanConfig_scan hagree s
    · rw [← applyLimit_eq, ← storeScanConfig_input, State.input, hscan', State.input]
  case outOfRange => exact scanConfig_badField hl hread hscan (scanConfigStored_outOfRange hrange) tag
  case cyclic => exact sensorScan_refused hl (sensorScanTaken_cyclic hmode) tag
  case undefined =>
    exact sensorScan_refused hl ((sensorScanTaken_single hmode hscan).trans (singleScan_of_none hplan)) tag
  case single =>
    intro p hplan
    have htaken := (sensorScanTaken_single hmode hscan).trans (singleScan_of_some hplan)
    exact ⟨fun hunused => sensorScan_refused hl (htaken.trans (if_pos hunused)) tag,
      fun hused => sensorScan_starts hl (htaken.trans (if_neg hused)) tag⟩
  case sequence =>
    obtain ⟨t, hnext, hanswered, hscan'⟩ := sensorScan_starts hl (sensorScanTaken_sequence hmode hscan) tag
    exact ⟨t, hnext, hanswered, scanGoesOn_of_continueFrom hscan'⟩

end Sys2Proof.Machine
